-- ==== Sys2Proof/Word.lean ====
section
/-! DEFINITION. The word types of the block: the widths of 00_scope.md R5 and 10_state.md R10. -/

namespace Sys2Proof

/-- A 32-bit word (TW = RSPW = 32, 00_scope.md R5): a timestamp, a pulse duration, a frame slot, a
calibration or filter register, an operand ARG, a response RSP. -/
abbrev Word := BitVec 32

/-- A command word (CMDW = 36, 00_scope.md R5; 30_encoding.md R40). -/
abbrev CmdWord := BitVec 36

/-- An axis value, 8 bits (10_state.md R20). -/
abbrev AxisVal := BitVec 8

end Sys2Proof
end

