-- ==== Sys2Proof/Config.lean ====
section
/-! DEFINITION. The parameters of 00_scope.md R4 and R5, each under its name, fixed at the default that
every rule, example and vector of the spec uses (log entry 6, DESIGN CHOICE). -/

namespace Sys2Proof.Config

/-- NSLOTS: slots in a frame (00_scope.md R4; structural, 92_eei_decisions.md D25). -/
abbrev nSlots : Nat := 7

/-- NCHAN: channel slots, indices 1..6 (00_scope.md R4). -/
abbrev nChan : Nat := 6

/-- The number of continuous axes, AXIS_LO..AXIS_HI = 1..4 (00_scope.md R4). -/
abbrev nAxis : Nat := 4

/-- The number of buttons, BTN_LO..BTN_HI = 5..6 (00_scope.md R4). -/
abbrev nButton : Nat := 2

/-- AXIS_LO (00_scope.md R4). -/
@[simp] abbrev axisLo : Nat := 1

/-- AXIS_HI (00_scope.md R4). -/
@[simp] abbrev axisHi : Nat := 4

/-- BTN_LO (00_scope.md R4). -/
@[simp] abbrev btnLo : Nat := 5

/-- BTN_HI (00_scope.md R4). -/
@[simp] abbrev btnHi : Nat := 6

/-- PAUSE_MIN, µs: the pause-pulse lower bound (00_scope.md R4). -/
@[simp] abbrev pauseMin : Nat := 5000

/-- PAUSE_MAX, µs: the pause-pulse upper bound (00_scope.md R4). -/
@[simp] abbrev pauseMax : Nat := 20000

/-- MAX_FRAME, µs: the maximum frame length (00_scope.md R4). -/
@[simp] abbrev maxFrame : Nat := 25000

/-- STALE_LIMIT, µs: 10 × MAX_FRAME (00_scope.md R4, 90_conflicts.md C12). -/
@[simp] abbrev staleLimit : Nat := 10 * maxFrame

/-- CAL_CENTER, µs: nominal centre, initial minimum and maximum (00_scope.md R4). -/
@[simp] abbrev calCenter : Nat := 1500

/-- CAL_WINDOW, µs: the calibration window (00_scope.md R4). -/
@[simp] abbrev calWindow : Nat := 30000000

/-- NOISE_THRESH, µs: the noise-rejection threshold (00_scope.md R4). -/
@[simp] abbrev noiseThresh : Nat := 200

/-- BTN_THRESH, µs: the button threshold (00_scope.md R4). -/
@[simp] abbrev btnThresh : Nat := 1500

/-- AXIS_FULL: the full-scale axis value (00_scope.md R4). -/
@[simp] abbrev axisFull : Nat := 255

/-- DELTA_FLOOR, µs: the output filter's noise floor (00_scope.md R4). -/
@[simp] abbrev deltaFloor : Nat := 20

/-- NEUTRAL: the value of a degenerate range and the reset value of AXIS (00_scope.md R5). -/
@[simp] abbrev neutral : Nat := 128

end Sys2Proof.Config
end

