-- ==== Sys2Proof/Machine/State.lean ====
section
/-! DEFINITION. The state of the block (10_state.md R10), its ports (30_encoding.md R50, R51), the
reasons a step could stop, and the state after reset (10_state.md R28, 70_reset_and_hazards.md R130). -/

namespace Sys2Proof.Machine

open Sys2Proof.Config

/-- The Controller Calibration State (10_state.md R17). There is no fourth value
(93_implementation_defined.md U8). -/
inductive CalState where
  /-- Named by the document, entered by no rule (10_state.md R17). -/
  | idle
  /-- The calibration window runs. -/
  | calibrating
  /-- The window has ended. -/
  | calibrated
deriving DecidableEq, Repr

/-- A slot index 0..6 (20_memory.md R30). -/
abbrev Slot := Fin nSlots

/-- A channel; channel `c` of the spec, in 1..6, is `c - 1` here (20_memory.md R30). -/
abbrev Channel := Fin nChan

/-- An axis; axis `c` of the spec, in 1..4, is `c - 1` here (20_memory.md R30). -/
abbrev Axis := Fin nAxis

/-- A button index 0..1 (20_memory.md R30). -/
abbrev Button := Fin nButton

/-- The whole state of the block: exactly the twelve elements of 10_state.md R10. -/
structure Block where
  /-- FRAME[0..6], the frame buffer of pulse durations (R11). -/
  frame : Vector Word nSlots
  /-- IDX, the slot written last; 7 is never held (R12, 93_implementation_defined.md U9). -/
  idx : Fin nSlots
  /-- T_LAST, the timestamp of the last captured edge (R13). -/
  tLast : Word
  /-- SYNC_TRUSTED, 1 = frame order is trusted (R14). -/
  syncTrusted : Bool
  /-- FRAME_DONE, a frame completed and no poll has taken it yet (R15). -/
  frameDone : Bool
  /-- CMIN[1..6], channel `c` at index `c - 1` (R16). -/
  cmin : Vector Word nChan
  /-- CMAX[1..6], channel `c` at index `c - 1` (R16). -/
  cmax : Vector Word nChan
  /-- CAL_STATE (R17). -/
  calState : CalState
  /-- CAL_START, the start time of the calibration window (R18). -/
  calStart : Word
  /-- LAST_RAW[1..4], axis `c` at index `c - 1`: the raw pulse width at the last forward (R19). -/
  lastRaw : Vector Word nAxis
  /-- AXIS[1..4], axis `c` at index `c - 1`: the output registers of the axes (R20). -/
  axis : Vector AxisVal nAxis
  /-- BUTTON[0..1], the output registers of the buttons (R21). -/
  button : Vector Bool nButton
deriving DecidableEq, Repr

/-- One presentation on the input ports (30_encoding.md R50). A valid bit and the value it qualifies
are one optional value: `reset = some t0` is `rst` = 1 with `t0`, `edge = some ts` is `edge_valid` = 1
with `edge_ts`, `cmd = some w` is `cmd_valid` = 1 with `cmd`. -/
structure PortInput where
  reset : Option Word := none
  edge : Option Word := none
  cmd : Option CmdWord := none
deriving DecidableEq, Repr

/-- The machine: the block and its ports. -/
structure State where
  /-- The twelve state elements (10_state.md R10). -/
  block : Block
  /-- What the environment presents, in order of arrival (20_memory.md R36, 30_encoding.md R50); the
  model's own field (log entry 2). -/
  inputs : List PortInput
  /-- The port `rsp_valid`: the last clock answered a command of the poll context (30_encoding.md R51). -/
  rspValid : Bool
  /-- RSP of the last command or reset (30_encoding.md R47; log entry 3). -/
  rsp : Word
  /-- The strobe `commit` of the last clock (30_encoding.md R48). -/
  commit : Bool
deriving DecidableEq, Repr

/-- Why a step could fault: never. "A model's step function is total and has no fault outcome"
(60_exceptions.md R113), so there is no constructor. -/
inductive Fault where
deriving DecidableEq, Repr

/-- Why a step could be refused. No command is refused (60_exceptions.md R113). -/
inductive Refusal where
  /-- An instruction whose meaning is not written yet, raised by its arm of `exec`; safe. No arm of
  this model raises it. -/
  | notModelled (mnemonic : String)
deriving DecidableEq, Repr

/-- The table of 10_state.md R28: the state after a reset that takes the clock reading `t0`. -/
def Block.reset (t0 : Word) : Block where
  frame := Vector.replicate nSlots 0
  idx := 0
  tLast := t0
  syncTrusted := false
  frameDone := false
  cmin := Vector.replicate nChan (BitVec.ofNat 32 calCenter)
  cmax := Vector.replicate nChan (BitVec.ofNat 32 calCenter)
  calState := .calibrating
  calStart := t0
  lastRaw := Vector.replicate nAxis 0
  axis := Vector.replicate nAxis (BitVec.ofNat 8 neutral)
  button := Vector.replicate nButton false

/-- The reset operation (70_reset_and_hazards.md R130, R131) with the inputs still to come. -/
def State.resetAt (t0 : Word) (inputs : List PortInput) : State where
  block := Block.reset t0
  inputs := inputs
  rspValid := false
  rsp := 0
  commit := false

/-- The machine right after reset: R130 with the clock reading t0 = 0 (log entry 1, DESIGN CHOICE:
t0 is an input), and nothing presented on the ports (log entry 2). -/
def State.reset : State :=
  State.resetAt 0 []

end Sys2Proof.Machine
end

