-- ==== Sys2Proof/Machine/Ops.lean ====
section
/-! DEFINITION. The named operations over the block's registers, the arithmetic primitives of
00_scope.md R7, and the one way a command ends (30_encoding.md R47, R48). The block takes no exception
and returns from none (60_exceptions.md R113, R121, R122), so there is no such operation here. -/

namespace Sys2Proof.Machine

open Sys2Proof.Config

/-- `sub32(a, b)`, the wraparound-safe subtraction of two timestamps (00_scope.md R7). -/
abbrev sub32 (a b : Word) : Word :=
  a - b

/-- `absdiff(a, b)` of two durations, on the integers without wrap (00_scope.md R7). -/
def absdiff (a b : Word) : Nat :=
  if b.toNat ≤ a.toNat then a.toNat - b.toNat else b.toNat - a.toNat

/-- `zext_32(v)` (00_scope.md R6). -/
def zext32 {n : Nat} (v : BitVec n) : Word :=
  v.setWidth 32

/-! Reads of the register arrays. -/

/-- FRAME[i]. -/
def Block.slot (b : Block) (i : Slot) : Word :=
  b.frame[i]

/-- CMIN of a channel. -/
def Block.minOf (b : Block) (c : Channel) : Word :=
  b.cmin[c]

/-- CMAX of a channel. -/
def Block.maxOf (b : Block) (c : Channel) : Word :=
  b.cmax[c]

/-- LAST_RAW of an axis. -/
def Block.rawOf (b : Block) (a : Axis) : Word :=
  b.lastRaw[a]

/-- AXIS of an axis. -/
def Block.axisOf (b : Block) (a : Axis) : AxisVal :=
  b.axis[a]

/-- BUTTON of a button. -/
def Block.buttonOf (b : Block) (j : Button) : Bool :=
  b.button[j]

/-! Writes, one element each (20_memory.md R34). CAL_START has none: reset alone writes it (10_state.md
R18). -/

/-- FRAME[i] <- v. -/
def Block.setSlot (b : Block) (i : Slot) (v : Word) : Block :=
  { b with frame := b.frame.set i v }

/-- IDX <- k. -/
def Block.setIdx (b : Block) (k : Slot) : Block :=
  { b with idx := k }

/-- T_LAST <- ts. -/
def Block.setTLast (b : Block) (ts : Word) : Block :=
  { b with tLast := ts }

/-- SYNC_TRUSTED <- v. -/
def Block.setSyncTrusted (b : Block) (v : Bool) : Block :=
  { b with syncTrusted := v }

/-- FRAME_DONE <- v. -/
def Block.setFrameDone (b : Block) (v : Bool) : Block :=
  { b with frameDone := v }

/-- CMIN[c] <- v. -/
def Block.setMin (b : Block) (c : Channel) (v : Word) : Block :=
  { b with cmin := b.cmin.set c v }

/-- CMAX[c] <- v. -/
def Block.setMax (b : Block) (c : Channel) (v : Word) : Block :=
  { b with cmax := b.cmax.set c v }

/-- CAL_STATE <- v. -/
def Block.setCalState (b : Block) (v : CalState) : Block :=
  { b with calState := v }

/-- LAST_RAW[a] <- v. -/
def Block.setRaw (b : Block) (a : Axis) (v : Word) : Block :=
  { b with lastRaw := b.lastRaw.set a v }

/-- AXIS[a] <- v. -/
def Block.setAxis (b : Block) (a : Axis) (v : AxisVal) : Block :=
  { b with axis := b.axis.set a v }

/-- BUTTON[j] <- v. -/
def Block.setButton (b : Block) (j : Button) (v : Bool) : Block :=
  { b with button := b.button.set j v }

/-! The end of a command. -/

/-- The state after a command that leaves the block as `b`, returns `rsp` and drives `commit`
(30_encoding.md R47, R48). -/
def State.respond (s : State) (b : Block) (rsp : Word) (commit : Bool) : State :=
  { s with block := b, rsp := rsp, commit := commit }

/-- A command that changes no state and returns `rsp` (20_memory.md R35): `commit` is 0. -/
def State.answer (s : State) (rsp : Word) : State :=
  s.respond s.block rsp false

end Sys2Proof.Machine
end

