-- ==== Sys2Proof/Machine/Operands.lean ====
section
/-! DEFINITION. The operand forms: the five index spaces of 20_memory.md R30 and the index map of R31.
An index operand is the whole 32-bit ARG compared as a number (30_encoding.md R42); outside its space
it selects nothing (20_memory.md R32). A timestamp operand is ARG itself. -/

namespace Sys2Proof.Machine

open Sys2Proof.Config

/-- The slot space, 0..6. -/
def slotIndex (idx : Word) : Option Slot :=
  if h : idx.toNat < nSlots then some ⟨idx.toNat, h⟩ else none

/-- The channel space, 1..6; index 0 is the pause slot and no channel (20_memory.md R32). -/
def channelIndex (idx : Word) : Option Channel :=
  if h : 1 ≤ idx.toNat ∧ idx.toNat ≤ nChan then some ⟨idx.toNat - 1, by omega⟩ else none

/-- The axis space, 1..4, which is also the continuous-axis channel range AXIS_LO..AXIS_HI. -/
def axisIndex (idx : Word) : Option Axis :=
  if h : axisLo ≤ idx.toNat ∧ idx.toNat ≤ axisHi then
    some ⟨idx.toNat - axisLo, by simp only [axisLo, axisHi, nAxis] at h ⊢; omega⟩
  else none

/-- The discrete-button channel range BTN_LO..BTN_HI = 5..6 (00_scope.md R4): button `j` is channel
`j + 5` (20_memory.md R31). -/
def buttonIndex (idx : Word) : Option Button :=
  if h : btnLo ≤ idx.toNat ∧ idx.toNat ≤ btnHi then
    some ⟨idx.toNat - btnLo, by simp only [btnLo, btnHi, nButton] at h ⊢; omega⟩
  else none

/-- The two timestamps that RDTS selects from. -/
inductive TimeSelect where
  /-- Selector 0, T_LAST. -/
  | lastEdge
  /-- Selector 1, CAL_START. -/
  | calStart
deriving DecidableEq, Repr

/-- The timestamp select space, 0..1 (30_encoding.md R49). -/
def timeSelect (idx : Word) : Option TimeSelect :=
  if idx.toNat = 0 then some .lastEdge else if idx.toNat = 1 then some .calStart else none

/-! The index map of 20_memory.md R31. -/

/-- Channel `c` is slot `c`. -/
def channelSlot (c : Channel) : Slot :=
  c.succ

/-- Axis `c` is channel `c`. -/
def axisChannel (a : Axis) : Channel :=
  ⟨a.val, Nat.lt_trans a.isLt (by decide)⟩

/-- The number of an axis as a channel argument of the mapper, 1..4. -/
def axisNumber (a : Axis) : Word :=
  BitVec.ofNat 32 (a.val + axisLo)

/-- Button `j` is channel `j + 5`, hence slot `j + 5`. -/
def buttonSlot (j : Button) : Slot :=
  ⟨j.val + btnLo, Nat.add_lt_add_right j.isLt btnLo⟩

/-- The number of a button's channel as an argument of the mapper, 5 or 6. -/
def buttonNumber (j : Button) : Word :=
  BitVec.ofNat 32 (j.val + btnLo)

/-- The channels in the order of the loops of 43_calibration.md R71. -/
def allChannels : List Channel :=
  [0, 1, 2, 3, 4, 5]

/-- The axes in the order of the loop of 45_output_filter.md R87. -/
def allAxes : List Axis :=
  [0, 1, 2, 3]

end Sys2Proof.Machine
end

