-- ==== Sys2Proof/Machine/Flags.lean ====
section
/-! DEFINITION. The status word and the response layouts (10_state.md R24, 30_encoding.md R47, R49),
and the output ports driven from the state (30_encoding.md R51). The block has no condition codes
(10_state.md R23). -/

namespace Sys2Proof.Machine

/-- CAL_STATE in two bits: 0 Idle, 1 Calibrating, 2 Calibrated; 3 never appears (30_encoding.md R49). -/
def CalState.code : CalState → BitVec 2
  | .idle => 0
  | .calibrating => 1
  | .calibrated => 2

/-- A Boolean as one bit, 1 for true (00_scope.md R6). -/
def bit (v : Bool) : BitVec 1 :=
  BitVec.ofBool v

/-- The port `stat[6:0]`: IDX in bits 6:4, CAL_STATE in 3:2, FRAME_DONE in 1, SYNC_TRUSTED in 0
(10_state.md R24). -/
def Block.statBits (b : Block) : BitVec 7 :=
  BitVec.ofNat 3 b.idx.val ++ b.calState.code ++ bit b.frameDone ++ bit b.syncTrusted

/-- The STAT word, bits 31:7 zero (10_state.md R24). -/
def Block.statWord (b : Block) : Word :=
  zext32 b.statBits

/-- The port `btn[1:0]`: BUTTON[1] ++ BUTTON[0] (30_encoding.md R51). -/
def Block.btnBits (b : Block) : BitVec 2 :=
  bit (b.buttonOf 1) ++ bit (b.buttonOf 0)

/-- EDGE's response: bit 0 FC, bit 1 RS (40_edge_capture.md R55). -/
def edgeResponse (fc rs : Bool) : Word :=
  zext32 (bit rs ++ bit fc)

/-- A predicate's response: bit 0 (30_encoding.md R47). -/
def boolResponse (v : Bool) : Word :=
  zext32 (bit v)

/-- POLL's response: CALDONE ++ UPD ++ FWD ++ SAMPLED ++ INSYNC ++ PRESENT (46_poll.md R90, R95). -/
def pollResponse (caldone : Bool) (upd : BitVec 4) (fwd sampled insync present : Bool) : Word :=
  zext32 (bit caldone ++ upd ++ bit fwd ++ bit sampled ++ bit insync ++ bit present)

/-- What the output ports show (30_encoding.md R51). -/
structure Outputs where
  rspValid : Bool
  rsp : Word
  commit : Bool
  axis1 : AxisVal
  axis2 : AxisVal
  axis3 : AxisVal
  axis4 : AxisVal
  btn : BitVec 2
  stat : BitVec 7
deriving DecidableEq, Repr

/-- The output ports: the axes, the buttons and `stat` are driven from the state at all times
(30_encoding.md R51). `rsp` means something only while `rspValid` (log entry 3). -/
def State.outputs (s : State) : Outputs where
  rspValid := s.rspValid
  rsp := s.rsp
  commit := s.commit
  axis1 := s.block.axisOf 0
  axis2 := s.block.axisOf 1
  axis3 := s.block.axisOf 2
  axis4 := s.block.axisOf 3
  btn := s.block.btnBits
  stat := s.block.statBits

end Sys2Proof.Machine
end

