-- ==== Sys2Proof/Machine/EdgeCapture.lean ====
section
/-! DEFINITION. Edge Capture: EDGE and its four steps (40_edge_capture.md R55 to R60). Each step is a
value it returns and a block it leaves. -/

namespace Sys2Proof.Machine

open Sys2Proof.Config

/-- Step 1, the pulse length: `sub32(ts, T_LAST)` (R56). -/
def Block.pulse (b : Block) (ts : Word) : Word :=
  sub32 ts b.tLast

/-- Step 1, the write: T_LAST <- ts (R56). -/
def Block.measure (b : Block) (ts : Word) : Block :=
  b.setTLast ts

/-- Step 2, the advanced index: 0 after slot 6 (R57). -/
def Block.nextIdx (b : Block) : Slot :=
  if b.idx = 6 then 0 else b.idx + 1

/-- Step 2: advance IDX, then store the pulse at the new index (R57, 92_eei_decisions.md D5). -/
def Block.advanceAndStore (b : Block) (pulse : Word) : Block :=
  (b.setIdx b.nextIdx).setSlot b.nextIdx pulse

/-- Step 3, the value: slot 6 was just filled (R58). -/
def isLastSlot (k : Slot) : Bool :=
  decide (k = 6)

/-- Step 3, the write: FRAME_DONE <- 1 when slot 6 was just filled (R58). -/
def Block.frameComplete (b : Block) (k : Slot) : Block :=
  if isLastSlot k then b.setFrameDone true else b

/-- The pause-pulse range, exclusive at both ends (R60). -/
def isPause (p : Word) : Bool :=
  decide (pauseMin < p.toNat) && decide (p.toNat < pauseMax)

/-- Step 4, the value: the block is untrusted and the pulse is a pause (R59). -/
def Block.resyncs (b : Block) (pulse : Word) : Bool :=
  !b.syncTrusted && isPause pulse

/-- Step 4, the writes: FRAME[0] <- pulse, IDX <- 0, SYNC_TRUSTED <- 1, FRAME_DONE <- 0 (R59,
92_eei_decisions.md D6, D8). -/
def Block.resync (b : Block) (pulse : Word) : Block :=
  if b.resyncs pulse then
    (((b.setSlot 0 pulse).setIdx 0).setSyncTrusted true).setFrameDone false
  else b

/-- The block after EDGE: steps 1 to 4 in the document's order (R55). -/
def Block.edge (b : Block) (ts : Word) : Block :=
  let pulse := b.pulse ts
  let stored := (b.measure ts).advanceAndStore pulse
  (stored.frameComplete stored.idx).resync pulse

/-- FC: step 3 raised frame-complete in this EDGE (R55, 30_encoding.md R47). -/
def Block.edgeFc (b : Block) : Bool :=
  isLastSlot b.nextIdx

/-- RS: step 4 resynchronized in this EDGE (R55, 30_encoding.md R47). -/
def Block.edgeRs (b : Block) (ts : Word) : Bool :=
  b.resyncs (b.pulse ts)

/-- EDGE ts (R55). -/
def execEdge (ts : Word) (s : State) : Host.Outcome State Fault Refusal :=
  .next (s.respond (s.block.edge ts) (edgeResponse s.block.edgeFc (s.block.edgeRs ts)) false)

end Sys2Proof.Machine
end

