-- ==== Sys2Proof/Machine/Calibration.lean ====
section
/-! DEFINITION. The Calibration Engine: `calRecord` and `calExpire`, which run inside POLL
(43_calibration.md R71 to R77). -/

namespace Sys2Proof.Machine

open Sys2Proof.Config

/-- The first branch of R71: the sample is below the minimum by at most NOISE_THRESH. -/
def lowersMin (sample lo : Word) : Bool :=
  decide (sample.toNat < lo.toNat) && decide (lo.toNat - sample.toNat ≤ noiseThresh)

/-- The second branch of R71: the sample is above the maximum by at most NOISE_THRESH. -/
def raisesMax (sample hi : Word) : Bool :=
  decide (hi.toNat < sample.toNat) && decide (sample.toNat - hi.toNat ≤ noiseThresh)

/-- CMIN[c] <- sample where the first branch fires. -/
def Block.recordMin (b : Block) (c : Channel) : Block :=
  if lowersMin (b.slot (channelSlot c)) (b.minOf c) then b.setMin c (b.slot (channelSlot c)) else b

/-- CMAX[c] <- sample where the second branch fires. -/
def Block.recordMax (b : Block) (c : Channel) : Block :=
  if raisesMax (b.slot (channelSlot c)) (b.maxOf c) then b.setMax c (b.slot (channelSlot c)) else b

/-- One turn of the loop of R71. -/
def Block.recordChannel (b : Block) (c : Channel) : Block :=
  (b.recordMin c).recordMax c

/-- The loop of R71 over a list of channels. -/
def Block.recordChannels (b : Block) (cs : List Channel) : Block :=
  cs.foldl Block.recordChannel b

/-- `calRecord()`: the six channels in turn; slot 0 is not sampled (R71). -/
def Block.calRecord (b : Block) : Block :=
  b.recordChannels allChannels

/-- `calExpire(now)`, the value: Calibrating and the window has run out, inclusively (R75). -/
def Block.expires (b : Block) (now : Word) : Bool :=
  decide (b.calState = .calibrating) && decide (calWindow ≤ (sub32 now b.calStart).toNat)

/-- `calExpire(now)`, the write: CAL_STATE <- Calibrated (R75). -/
def Block.calExpire (b : Block) (now : Word) : Block :=
  if b.expires now then b.setCalState .calibrated else b

end Sys2Proof.Machine
end

