-- ==== Sys2Proof/Machine/FrameSync.lean ====
section
/-! DEFINITION. The Frame Synchronizer: the slot validator, the caller's duty and INSYNC
(41_frame_sync.md R63 to R66). -/

namespace Sys2Proof.Machine

open Sys2Proof.Config

/-- `frameInSync()`: FRAME[0] >= PAUSE_MIN, with no upper bound and without SYNC_TRUSTED (R63). -/
def Block.frameInSync (b : Block) : Bool :=
  decide (pauseMin ≤ (b.slot 0).toNat)

/-- `syncCheck()`, the write: SYNC_TRUSTED <- 0 when the predicate is false (R65). Its value is
`frameInSync`. -/
def Block.syncCheck (b : Block) : Block :=
  if b.frameInSync then b else b.setSyncTrusted false

/-- INSYNC (R64). -/
def execInsync (s : State) : Host.Outcome State Fault Refusal :=
  .next (s.answer (boolResponse s.block.frameInSync))

end Sys2Proof.Machine
end

