-- ==== Sys2Proof/Machine/Mapper.lean ====
section
/-! DEFINITION. The Channel Value Mapper: `mapChannel` and MAPCH (44_mapper.md R78 to R84). -/

namespace Sys2Proof.Machine

open Sys2Proof.Config

/-- `mapAxis(p, lo, hi)` on the integers (R79): the degenerate range first (R81), then the clamps
(R80), then the interpolation rounded half up. -/
def mapAxisNat (p lo hi : Nat) : Nat :=
  if hi ≤ lo then neutral
  else if p ≤ lo then 0
  else if hi ≤ p then axisFull
  else (2 * axisFull * (p - lo) + (hi - lo)) / (2 * (hi - lo))

/-- `mapAxis` as an axis value; the number is in 0..255 (R79). -/
def mapAxis (p lo hi : Word) : AxisVal :=
  BitVec.ofNat 8 (mapAxisNat p.toNat lo.toNat hi.toNat)

/-- `mapButton(p)`: 1 iff p > BTN_THRESH (R82). -/
def mapButton (p : Word) : AxisVal :=
  if btnThresh < p.toNat then 1 else 0

/-- The mapping of one axis from the registers (R78). -/
def Block.mapAxisChannel (b : Block) (a : Axis) : AxisVal :=
  mapAxis (b.slot (channelSlot (axisChannel a))) (b.minOf (axisChannel a)) (b.maxOf (axisChannel a))

/-- `mapChannel(ch)`: an axis channel, a button channel, or 0 (R78, R83). -/
def Block.mapChannel (b : Block) (ch : Word) : AxisVal :=
  match axisIndex ch with
  | some a => b.mapAxisChannel a
  | none =>
    match buttonIndex ch with
    | some j => mapButton (b.slot (buttonSlot j))
    | none => 0

/-- MAPCH idx (R84). -/
def execMapch (idx : Word) (s : State) : Host.Outcome State Fault Refusal :=
  .next (s.answer (zext32 (s.block.mapChannel idx)))

end Sys2Proof.Machine
end

