-- ==== Sys2Proof/Machine/OutputFilter.lean ====
section
/-! DEFINITION. The Output Filter: `filterAxis`, `forwardButtons` and `forwardPass`, which run inside
POLL (45_output_filter.md R85 to R89). -/

namespace Sys2Proof.Machine

open Sys2Proof.Config

/-- `filterAxis(c)`, the value: the raw pulse has moved more than DELTA_FLOOR since the last forward
(R85). -/
def Block.axisMoved (b : Block) (a : Axis) : Bool :=
  decide (deltaFloor < absdiff (b.slot (channelSlot (axisChannel a))) (b.rawOf a))

/-- `filterAxis(c)`, the writes: AXIS[c] <- mapChannel(c), LAST_RAW[c] <- FRAME[c] (R85). -/
def Block.filterAxis (b : Block) (a : Axis) : Block :=
  if b.axisMoved a then
    (b.setAxis a (b.mapChannel (axisNumber a))).setRaw a (b.slot (channelSlot (axisChannel a)))
  else b

/-- The loop of R87 over a list of axes. -/
def Block.filterAxes (b : Block) (as : List Axis) : Block :=
  as.foldl Block.filterAxis b

/-- BUTTON[j] <- not mapChannel(j + 5) (R86). -/
def Block.forwardButton (b : Block) (j : Button) : Block :=
  b.setButton j (decide (b.mapChannel (buttonNumber j) = 0))

/-- `forwardButtons()` (R86). -/
def Block.forwardButtons (b : Block) : Block :=
  (b.forwardButton 0).forwardButton 1

/-- `forwardPass()`, the writes: the four axes, then the two buttons (R87). -/
def Block.forwardPass (b : Block) : Block :=
  (b.filterAxes allAxes).forwardButtons

/-- `forwardPass()`, the value `upd`: bit c - 1 is 1 when axis c is forwarded (R87). Each axis is
filtered on its own registers, so the four tests are those of the block the pass starts from. -/
def Block.forwardUpd (b : Block) : BitVec 4 :=
  bit (b.axisMoved 3) ++ bit (b.axisMoved 2) ++ bit (b.axisMoved 1) ++ bit (b.axisMoved 0)

end Sys2Proof.Machine
end

