-- ==== Sys2Proof/Machine/SignalHealth.lean ====
section
/-! DEFINITION. The Signal Health Monitor: `signalPresent` and SIGP (42_signal_health.md R67, R68). -/

namespace Sys2Proof.Machine

open Sys2Proof.Config

/-- `signalPresent(now)`: present iff the elapsed time, modulo 2^32, is at most STALE_LIMIT (R67). -/
def Block.signalPresent (b : Block) (now : Word) : Bool :=
  !decide (staleLimit < (sub32 now b.tLast).toNat)

/-- SIGP ts (R68). -/
def execSigp (ts : Word) (s : State) : Host.Outcome State Fault Refusal :=
  .next (s.answer (boolResponse (s.block.signalPresent ts)))

end Sys2Proof.Machine
end

