-- ==== Sys2Proof/Machine/Poll.lean ====
section
/-! DEFINITION. The poll cycle: POLL (46_poll.md R90 to R97). The conditions that R90 nests are written
out as the four response bits PRESENT, INSYNC, SAMPLED and FWD of R95, each read from the block POLL
starts from: nothing POLL writes before it uses one of them changes what it reads. -/

namespace Sys2Proof.Machine

/-- INSYNC: the signal is present and slot 0 passes; 0 when the signal is absent (R95). -/
def Block.pollInsync (b : Block) (ts : Word) : Bool :=
  b.signalPresent ts && b.frameInSync

/-- SAMPLED: in sync, Calibrating at the start, and FRAME_DONE was 1 at the start (R90,
43_calibration.md R74). -/
def Block.pollSampled (b : Block) (ts : Word) : Bool :=
  b.pollInsync ts && decide (b.calState = .calibrating) && b.frameDone

/-- FWD: in sync and Calibrated at the start (R93). -/
def Block.pollFwd (b : Block) (ts : Word) : Bool :=
  b.pollInsync ts && decide (b.calState = .calibrated)

/-- The first duties of R90: FRAME_DONE <- 0 (R92), and the slot check when the signal is present
(R91). -/
def Block.pollChecks (b : Block) (ts : Word) : Block :=
  if b.signalPresent ts then (b.setFrameDone false).syncCheck else b.setFrameDone false

/-- The work the calibration state asks for (R91 (3)). -/
def Block.pollWork (b : Block) (ts : Word) : Block :=
  if b.pollSampled ts then (b.pollChecks ts).calRecord
  else if b.pollFwd ts then (b.pollChecks ts).forwardPass
  else b.pollChecks ts

/-- UPD: the axes forwarded; 0 when FWD is 0 (R95). -/
def Block.pollUpd (b : Block) (ts : Word) : BitVec 4 :=
  if b.pollFwd ts then (b.pollChecks ts).forwardUpd else 0

/-- The block after POLL: the checks, the work, then the window (R90). -/
def Block.poll (b : Block) (ts : Word) : Block :=
  (b.pollWork ts).calExpire ts

/-- POLL's response word (R95). -/
def Block.pollWord (b : Block) (ts : Word) : Word :=
  pollResponse ((b.pollWork ts).expires ts) (b.pollUpd ts) (b.pollFwd ts) (b.pollSampled ts)
    (b.pollInsync ts) (b.signalPresent ts)

/-- POLL ts; `commit` is 1, unconditionally (R90, R94). -/
def execPoll (ts : Word) (s : State) : Host.Outcome State Fault Refusal :=
  .next (s.respond (s.block.poll ts) (s.block.pollWord ts) true)

end Sys2Proof.Machine
end

