-- ==== Sys2Proof/Machine/Readout.lean ====
section
/-! DEFINITION. NOP, the read commands and the two reserved opcodes (47_readout.md R100 to R109). Each
changes no state and drives `commit` = 0; an index outside its space answers 0 (20_memory.md R32). -/

namespace Sys2Proof.Machine

/-- NOP (R100). -/
def execNop (s : State) : Host.Outcome State Fault Refusal :=
  .next (s.answer 0)

/-- RDSLOT idx (R101). -/
def execRdslot (idx : Word) (s : State) : Host.Outcome State Fault Refusal :=
  .next (s.answer (((slotIndex idx).map s.block.slot).getD 0))

/-- RDMIN idx (R102). -/
def execRdmin (idx : Word) (s : State) : Host.Outcome State Fault Refusal :=
  .next (s.answer (((channelIndex idx).map s.block.minOf).getD 0))

/-- RDMAX idx (R103). -/
def execRdmax (idx : Word) (s : State) : Host.Outcome State Fault Refusal :=
  .next (s.answer (((channelIndex idx).map s.block.maxOf).getD 0))

/-- RDAXIS idx: the value last forwarded (R104). -/
def execRdaxis (idx : Word) (s : State) : Host.Outcome State Fault Refusal :=
  .next (s.answer (((axisIndex idx).map fun a => zext32 (s.block.axisOf a)).getD 0))

/-- RDBTN (R105). -/
def execRdbtn (s : State) : Host.Outcome State Fault Refusal :=
  .next (s.answer (zext32 s.block.btnBits))

/-- RDSTAT: the STAT word, FRAME_DONE not cleared (R106). -/
def execRdstat (s : State) : Host.Outcome State Fault Refusal :=
  .next (s.answer s.block.statWord)

/-- RDRAW idx (R107). -/
def execRdraw (idx : Word) (s : State) : Host.Outcome State Fault Refusal :=
  .next (s.answer (((axisIndex idx).map s.block.rawOf).getD 0))

/-- The register a selector of RDTS names (R108). -/
def Block.timeOf (b : Block) : TimeSelect → Word
  | .lastEdge => b.tLast
  | .calStart => b.calStart

/-- RDTS idx (R108). -/
def execRdts (idx : Word) (s : State) : Host.Outcome State Fault Refusal :=
  .next (s.answer (((timeSelect idx).map s.block.timeOf).getD 0))

/-- OP 0xE, done as NOP (R109, 30_encoding.md R44). -/
def execRsvdE (s : State) : Host.Outcome State Fault Refusal :=
  .next (s.answer 0)

/-- OP 0xF, done as NOP (R109, 30_encoding.md R44). -/
def execRsvdF (s : State) : Host.Outcome State Fault Refusal :=
  .next (s.answer 0)

end Sys2Proof.Machine
end

