-- ==== Sys2Proof/Syntax.lean ====
section
/-! DEFINITION. The commands: one constructor for each row of spec/opcode_table.json (30_encoding.md
R43), with the operand its format gives it (R41, R42). A format N command looks at none of its ARG
bits (R45), so its constructor holds none. -/

namespace Sys2Proof

/-- A command of the command port (30_encoding.md R43). -/
inductive Instr where
  /-- OP 0x0 (47_readout.md R100). -/
  | nop
  /-- OP 0x1, a rising edge at time `ts` (40_edge_capture.md R55). -/
  | edge (ts : Word)
  /-- OP 0x2, one iteration of the polling loop at time `ts` (46_poll.md R90). -/
  | poll (ts : Word)
  /-- OP 0x3 (41_frame_sync.md R64). -/
  | insync
  /-- OP 0x4, at time `ts` (42_signal_health.md R68). -/
  | sigp (ts : Word)
  /-- OP 0x5, channel `idx` (44_mapper.md R84). -/
  | mapch (idx : Word)
  /-- OP 0x6, slot `idx` (47_readout.md R101). -/
  | rdslot (idx : Word)
  /-- OP 0x7, channel `idx` (47_readout.md R102). -/
  | rdmin (idx : Word)
  /-- OP 0x8, channel `idx` (47_readout.md R103). -/
  | rdmax (idx : Word)
  /-- OP 0x9, axis `idx` (47_readout.md R104). -/
  | rdaxis (idx : Word)
  /-- OP 0xA (47_readout.md R105). -/
  | rdbtn
  /-- OP 0xB (47_readout.md R106). -/
  | rdstat
  /-- OP 0xC, axis `idx` (47_readout.md R107). -/
  | rdraw (idx : Word)
  /-- OP 0xD, selector `idx` (47_readout.md R108). -/
  | rdts (idx : Word)
  /-- OP 0xE, reserved (47_readout.md R109). -/
  | rsvdE
  /-- OP 0xF, reserved (47_readout.md R109). -/
  | rsvdF
deriving DecidableEq, Repr

/-- The three operand formats of 30_encoding.md R41: N ignores ARG, T takes a timestamp, I an index. -/
inductive Format where
  | n
  | t
  | i
deriving DecidableEq, Repr

end Sys2Proof
end

