-- ==== Sys2Proof/Machine/Dispatch.lean ====
section
/-! DEFINITION. One arm per command of spec/opcode_table.json, in the table's order. -/

namespace Sys2Proof.Machine

def exec (i : Instr) (s : State) : Host.Outcome State Fault Refusal :=
  match i with
  | .nop => Sys2Proof.Machine.execNop s
  | .edge ts => Sys2Proof.Machine.execEdge ts s
  | .poll ts => Sys2Proof.Machine.execPoll ts s
  | .insync => Sys2Proof.Machine.execInsync s
  | .sigp ts => Sys2Proof.Machine.execSigp ts s
  | .mapch idx => Sys2Proof.Machine.execMapch idx s
  | .rdslot idx => Sys2Proof.Machine.execRdslot idx s
  | .rdmin idx => Sys2Proof.Machine.execRdmin idx s
  | .rdmax idx => Sys2Proof.Machine.execRdmax idx s
  | .rdaxis idx => Sys2Proof.Machine.execRdaxis idx s
  | .rdbtn => Sys2Proof.Machine.execRdbtn s
  | .rdstat => Sys2Proof.Machine.execRdstat s
  | .rdraw idx => Sys2Proof.Machine.execRdraw idx s
  | .rdts idx => Sys2Proof.Machine.execRdts idx s
  | .rsvdE => Sys2Proof.Machine.execRsvdE s
  | .rsvdF => Sys2Proof.Machine.execRsvdF s

end Sys2Proof.Machine
end

