-- ==== Sys2Proof/WellFormed.lean ====
section
/-! DEFINITION. Well-formedness. No command is ill formed: every OP value and every ARG value is
allowed and "decoding is total on all 2^36 words" (30_encoding.md R45). What can be ill formed is a
plain number offered as a command word: it must fit the 36 bits of R40. -/

namespace Sys2Proof

/-- Every command with every 32-bit operand is well formed (30_encoding.md R44, R45). -/
def Instr.wellFormed : Instr → Bool
  | .nop | .insync | .rdbtn | .rdstat | .rsvdE | .rsvdF => true
  | .edge _ | .poll _ | .sigp _ => true
  | .mapch _ | .rdslot _ | .rdmin _ | .rdmax _ | .rdaxis _ | .rdraw _ | .rdts _ => true

/-- A number is a command word when it fits in CMDW = 36 bits (30_encoding.md R40). -/
def isCommandWord (n : Nat) : Bool :=
  decide (n < 2 ^ 36)

end Sys2Proof
end

