-- ==== Sys2Proof/Decode.lean ====
section
/-! DEFINITION. The decoder and the encoder, both from the opcode map of 30_encoding.md R43 and the
field layout of R40. Decoding a command word cannot fail (R46); only a number that is no command word
is rejected, by name. -/

namespace Sys2Proof

/-- The field OP, bits 35:32 (30_encoding.md R40). -/
def opField (w : CmdWord) : BitVec 4 :=
  w.extractLsb' 32 4

/-- The field ARG, bits 31:0, taken whole as an unsigned number (30_encoding.md R40, R42). -/
def argField (w : CmdWord) : Word :=
  w.extractLsb' 0 32

/-- The decoder: the row of 30_encoding.md R43 whose OP equals `cmd[35:32]`, with operand `cmd[31:0]`
(R46). The last row stands for OP 0xF alone, since OP has four bits and 0x0 to 0xE are listed. -/
def decode (w : CmdWord) : Instr :=
  match (opField w).toNat with
  | 0x0 => .nop
  | 0x1 => .edge (argField w)
  | 0x2 => .poll (argField w)
  | 0x3 => .insync
  | 0x4 => .sigp (argField w)
  | 0x5 => .mapch (argField w)
  | 0x6 => .rdslot (argField w)
  | 0x7 => .rdmin (argField w)
  | 0x8 => .rdmax (argField w)
  | 0x9 => .rdaxis (argField w)
  | 0xA => .rdbtn
  | 0xB => .rdstat
  | 0xC => .rdraw (argField w)
  | 0xD => .rdts (argField w)
  | 0xE => .rsvdE
  | _ => .rsvdF

/-- Why a number is not decoded. Raised by `decodeNumber` alone; no command word of the port can
raise it (safe). -/
inductive DecodeError where
  /-- The number does not fit in CMDW = 36 bits (30_encoding.md R40; log entry 7). -/
  | notACommandWord
deriving DecidableEq, Repr

/-- The decoder on plain numbers: total, rejecting by name what is no 36-bit word. -/
def decodeNumber (n : Nat) : Except DecodeError Instr :=
  if isCommandWord n then .ok (decode (BitVec.ofNat 36 n)) else .error .notACommandWord

/-- The instruction the decoder reads from an instruction whose bits are `w`, numbered as
spec/opcode_table.json numbers them (bit 0 the least significant bit of the one 36-bit word). A
command is one word with no byte order (20_memory.md R33), so laying it out is the identity. -/
def decodeTableWord (nbits w : Nat) : Option Instr :=
  match decodeNumber (w % 2 ^ nbits) with
  | .ok i => some i
  | .error _ => none

/-! The encoder. -/

/-- The opcode of a command, by the table of 30_encoding.md R43. -/
def Instr.opcode : Instr → BitVec 4
  | .nop => 0x0
  | .edge _ => 0x1
  | .poll _ => 0x2
  | .insync => 0x3
  | .sigp _ => 0x4
  | .mapch _ => 0x5
  | .rdslot _ => 0x6
  | .rdmin _ => 0x7
  | .rdmax _ => 0x8
  | .rdaxis _ => 0x9
  | .rdbtn => 0xA
  | .rdstat => 0xB
  | .rdraw _ => 0xC
  | .rdts _ => 0xD
  | .rsvdE => 0xE
  | .rsvdF => 0xF

/-- The operand of a command; a format N command assembles ARG = 0 (30_encoding.md R52). -/
def Instr.arg : Instr → Word
  | .nop | .insync | .rdbtn | .rdstat | .rsvdE | .rsvdF => 0
  | .edge ts | .poll ts | .sigp ts => ts
  | .mapch idx | .rdslot idx | .rdmin idx | .rdmax idx | .rdaxis idx | .rdraw idx | .rdts idx => idx

/-- The format of a command (30_encoding.md R41). -/
def Instr.format : Instr → Format
  | .nop | .insync | .rdbtn | .rdstat | .rsvdE | .rsvdF => .n
  | .edge _ | .poll _ | .sigp _ => .t
  | .mapch _ | .rdslot _ | .rdmin _ | .rdmax _ | .rdaxis _ | .rdraw _ | .rdts _ => .i

/-- The word of a command: `OP ++ ARG` (30_encoding.md R40). -/
def encode (i : Instr) : CmdWord :=
  i.opcode ++ i.arg

end Sys2Proof
end

