-- ==== Sys2Proof/Machine/Ports.lean ====
section
/-! DEFINITION. The input ports: which command a clock edge does (30_encoding.md R50, 20_memory.md R37,
70_reset_and_hazards.md R131). -/

namespace Sys2Proof.Machine

/-- The word that `edge_valid` with `edge_ts` presents: `0x1 ++ edge_ts` (30_encoding.md R50). -/
def edgeWord (ts : Word) : CmdWord :=
  0x1#4 ++ ts

/-- What one clock edge does. -/
inductive Fetched where
  /-- No request is presented: no command is done and the state becomes `s`. -/
  | idle (s : State)
  /-- `rst` is 1: the reset operation with `t0`; `rest` is what the ports show afterwards. -/
  | reset (t0 : Word) (rest : List PortInput)
  /-- The command word `w` is done from `s`. -/
  | run (w : CmdWord) (s : State)
deriving DecidableEq, Repr

/-- The state from which a command is done: its presentation is taken off the ports, and `rsp_valid`
is driven for a command of the poll context only, "the response of an `edge_valid` request is produced
and dropped" (30_encoding.md R51). -/
def State.accept (s : State) (rest : List PortInput) (fromPoll : Bool) : State :=
  { s with inputs := rest, rspValid := fromPoll }

/-- A clock edge without a command: the block keeps its state (60_exceptions.md R126), and no response
and no commit is driven (log entry 3). -/
def State.idleClock (s : State) (rest : List PortInput) : State :=
  { s with inputs := rest, rspValid := false, commit := false }

/-- What the ports show after a clock edge that did an EDGE: "the poll context holds `cmd` until it sees
`rsp_valid` for it" (30_encoding.md R50), so a command presented beside that edge is still on the command
port at the next clock edge, together with whatever else is presented there; a command that the next
presentation itself shows is what the port shows (log entry 4). -/
def heldCommand (cmd : Option CmdWord) (rest : List PortInput) : List PortInput :=
  match cmd, rest with
  | none, rest => rest
  | some w, [] => [{ cmd := some w }]
  | some w, p :: later => { p with cmd := some (p.cmd.getD w) } :: later

/-- The choice of one clock edge. Reset wins over every command, held or not, which is ignored
(70_reset_and_hazards.md R131, 60_exceptions.md R120; log entry 5); an edge is done before the poll context's command
(20_memory.md R37). -/
def fetch (s : State) : Fetched :=
  match s.inputs with
  | [] => .idle (s.idleClock [])
  | p :: rest =>
    match p.reset with
    | some t0 => .reset t0 rest
    | none =>
      match p.edge with
      | some ts => .run (edgeWord ts) (s.accept (heldCommand p.cmd rest) false)
      | none =>
        match p.cmd with
        | some w => .run w (s.accept rest true)
        | none => .idle (s.idleClock rest)

/-- The state in which the instruction whose bits are `w` is the next presentation of the poll
context. -/
def State.present (s : State) (nbits w : Nat) : State :=
  { s with inputs := { cmd := some (BitVec.ofNat 36 (w % 2 ^ nbits)) } :: s.inputs }

end Sys2Proof.Machine
end

