-- ==== Sys2Proof/Machine/Step.lean ====
section
/-! DEFINITION. One step: one rising edge of `clk` (30_encoding.md R50, 00_scope.md R9). -/

namespace Sys2Proof.Machine

/-- One clock edge: reset, one command, or nothing, as `fetch` chooses. "One step per command"
(70_reset_and_hazards.md R146): a command is done whole by one `exec`, and no time enters but the `ts`
operands and `t0` (log entry 9). -/
def step (s : State) : Host.Outcome State Fault Refusal :=
  match fetch s with
  | .idle t => .next t
  | .reset t0 rest => .next (State.resetAt t0 rest)
  | .run w t => exec (decode w) t

/-- The instruction whose bits are `w` (numbered as spec/opcode_table.json numbers them) presented on
the command port in front of everything else, so that the very next step does it (log entry 2). -/
def State.withFetchWord (s : State) (nbits w : Nat) : State :=
  s.present nbits w

end Sys2Proof.Machine
end

