-- ==== Sys2Proof/Machine/Assembler.lean ====
section
/-! DEFINITION. The assembler of 30_encoding.md R52: the lines of a test program, the pseudo-instructions
with their cursor T, the program they expand to, and the text of a line (log entry 8). -/

namespace Sys2Proof.Machine

/-- One line of assembler (R52). `reset` is the `rst` input, not a command word. -/
inductive AsmLine where
  | command (i : Instr)
  | time (t : Word)
  | wait (d : Word)
  | pulse (d : Word)
  | frame (d0 d1 d2 d3 d4 d5 d6 : Word)
  | pollNow
  | sigpNow
  | reset (t : Word)
deriving DecidableEq, Repr

/-- A command word on the command port. -/
def onPort (i : Instr) : PortInput :=
  { cmd := some (encode i) }

/-- The cursor after `PULSE d`, `(T + d) mod 2^32`, and the EDGE it emits (R52). -/
def expandPulse (cursor d : Word) : Word × List PortInput :=
  (cursor + d, [onPort (.edge (cursor + d))])

/-- `PULSE` for each duration in turn (R52). -/
def expandPulses : Word → List Word → Word × List PortInput
  | cursor, [] => (cursor, [])
  | cursor, d :: ds =>
    let first := expandPulse cursor d
    let others := expandPulses first.1 ds
    (others.1, first.2 ++ others.2)

/-- The cursor after a line and what the line presents on the ports, by the table of R52. -/
def expandLine (cursor : Word) : AsmLine → Word × List PortInput
  | .command i => (cursor, [onPort i])
  | .time t => (t, [])
  | .wait d => (cursor + d, [])
  | .pulse d => expandPulse cursor d
  | .frame d0 d1 d2 d3 d4 d5 d6 => expandPulses cursor [d0, d1, d2, d3, d4, d5, d6]
  | .pollNow => (cursor, [onPort (.poll cursor)])
  | .sigpNow => (cursor, [onPort (.sigp cursor)])
  | .reset t => (t, [{ reset := some t }])

/-- What a program presents on the ports, line by line, from a cursor. -/
def expandFrom : Word → List AsmLine → List PortInput
  | _, [] => []
  | cursor, l :: ls => (expandLine cursor l).2 ++ expandFrom (expandLine cursor l).1 ls

/-- A program: the cursor is initially 0 (R52). -/
def expandProgram (ls : List AsmLine) : List PortInput :=
  expandFrom 0 ls

/-! The text of a line. -/

/-- A hexadecimal digit. -/
def hexDigit (n : Nat) : Char :=
  if n < 10 then Char.ofNat (48 + n) else Char.ofNat (55 + n)

/-- `n` hexadecimal digits of a number, the most significant first. -/
def hexDigits : Nat → Nat → List Char
  | 0, _ => []
  | n + 1, w => hexDigits n (w / 16) ++ [hexDigit (w % 16)]

/-- "The word is written as nine hexadecimal digits, OP first" (R52). -/
def wordText (w : CmdWord) : List Char :=
  '0' :: 'x' :: hexDigits 9 w.toNat

/-- The value of a digit in a base, if the character is one. -/
def digitValue (base : Nat) (c : Char) : Option Nat :=
  let n := c.toNat
  let v :=
    if 48 ≤ n ∧ n ≤ 57 then n - 48
    else if 65 ≤ n ∧ n ≤ 70 then n - 55
    else if 97 ≤ n ∧ n ≤ 102 then n - 87
    else base
  if v < base then some v else none

/-- The value of a string of digits after those read into `acc`. -/
def digitsValue (base : Nat) : Nat → List Char → Option Nat
  | acc, [] => some acc
  | acc, c :: cs =>
    match digitValue base c with
    | some v => digitsValue base (base * acc + v) cs
    | none => none

/-- An operand: decimal, or hexadecimal after `0x` (R52); it must fit ARG (log entry 8). -/
def readNumber : List Char → Option Word
  | [] => none
  | ['0', 'x'] => none
  | cs =>
    let value :=
      match cs with
      | '0' :: 'x' :: ds => digitsValue 16 0 ds
      | ds => digitsValue 10 0 ds
    match value with
    | some v => if v < 2 ^ 32 then some (BitVec.ofNat 32 v) else none
    | none => none

/-- A separator between the words of a line. -/
def isSeparator (c : Char) : Bool :=
  c == ' ' || c == ',' || c == '\t'

/-- The words of a line up to its comment, which a `;` starts (R52); `word` is the word being read. -/
def lineWords : List Char → List Char → List (List Char)
  | word, [] => if word = [] then [] else [word]
  | word, c :: cs =>
    if c = ';' then (if word = [] then [] else [word])
    else if isSeparator c then
      (if word = [] then lineWords [] cs else word :: lineWords [] cs)
    else lineWords (word ++ [c]) cs

/-- A mnemonic that takes no operand (R43, R52). -/
def plainLine : List Char → Option AsmLine
  | ['N', 'O', 'P'] => some (.command .nop)
  | ['I', 'N', 'S', 'Y', 'N', 'C'] => some (.command .insync)
  | ['R', 'D', 'B', 'T', 'N'] => some (.command .rdbtn)
  | ['R', 'D', 'S', 'T', 'A', 'T'] => some (.command .rdstat)
  | ['P', 'O', 'L', 'L', 'N', 'O', 'W'] => some .pollNow
  | ['S', 'I', 'G', 'P', 'N', 'O', 'W'] => some .sigpNow
  | _ => none

/-- A mnemonic that takes one operand (R43, R52). -/
def operandLine (name : List Char) (v : Word) : Option AsmLine :=
  match name with
  | ['E', 'D', 'G', 'E'] => some (.command (.edge v))
  | ['P', 'O', 'L', 'L'] => some (.command (.poll v))
  | ['S', 'I', 'G', 'P'] => some (.command (.sigp v))
  | ['M', 'A', 'P', 'C', 'H'] => some (.command (.mapch v))
  | ['R', 'D', 'S', 'L', 'O', 'T'] => some (.command (.rdslot v))
  | ['R', 'D', 'M', 'I', 'N'] => some (.command (.rdmin v))
  | ['R', 'D', 'M', 'A', 'X'] => some (.command (.rdmax v))
  | ['R', 'D', 'A', 'X', 'I', 'S'] => some (.command (.rdaxis v))
  | ['R', 'D', 'R', 'A', 'W'] => some (.command (.rdraw v))
  | ['R', 'D', 'T', 'S'] => some (.command (.rdts v))
  | ['.', 't', 'i', 'm', 'e'] => some (.time v)
  | ['W', 'A', 'I', 'T'] => some (.wait v)
  | ['P', 'U', 'L', 'S', 'E'] => some (.pulse v)
  | ['R', 'E', 'S', 'E', 'T'] => some (.reset v)
  | _ => none

/-- A line of text as assembler. `some none` is a line with nothing but a comment; `none` is no line of
the assembler. The reserved opcodes have no mnemonic (R43). -/
def readLine (text : List Char) : Option (Option AsmLine) :=
  match lineWords [] text with
  | [] => some none
  | [name] => (plainLine name).map some
  | [name, v] => (readNumber v).bind fun v => (operandLine name v).map some
  | ['F', 'R', 'A', 'M', 'E'] :: ds =>
    match ds.map readNumber with
    | [some d0, some d1, some d2, some d3, some d4, some d5, some d6] =>
      some (some (.frame d0 d1 d2 d3 d4 d5 d6))
    | _ => none
  | _ => none

end Sys2Proof.Machine
end

