-- ==== Sys2Proof/Safety.lean ====
section
/-! DEFINITION. What the statements say of runs: runs of commands, runs of clock edges that never stop,
and the invariants of 10_state.md R27. -/

namespace Sys2Proof

/-- A command that writes no state: every command but EDGE and POLL (10_state.md R26, 20_memory.md
R35). -/
def Instr.isQuery : Instr → Bool
  | .edge _ | .poll _ => false
  | .nop | .insync | .rdbtn | .rdstat | .rsvdE | .rsvdF => true
  | .sigp _ | .mapch _ | .rdslot _ | .rdmin _ | .rdmax _ | .rdaxis _ | .rdraw _ | .rdts _ => true

end Sys2Proof

namespace Sys2Proof.Machine

open Sys2Proof.Config

/-- The commands of a list in turn, stopping at the first fault or refusal (20_memory.md R36: one total
order, each command seeing every earlier write). -/
def execList : List Instr → State → Host.Outcome State Fault Refusal
  | [], s => .next s
  | i :: is, s =>
    match exec i s with
    | .next t => execList is t
    | .fault r => .fault r
    | .refused r => .refused r

/-- A run of `k` clock edges from `s` stops nowhere. -/
def NeverStops (k : Nat) (s : State) : Prop :=
  ∃ t, Host.Core.run Sys2Proof.core k s = .next t

/-- The invariants of 10_state.md R27 that speak of one state: (b) and (d). (a) holds by the type of
IDX. -/
abbrev Block.Inv (b : Block) : Prop :=
  (∀ c : Channel, (b.minOf c).toNat ≤ calCenter ∧ calCenter ≤ (b.maxOf c).toNat) ∧
    b.calState ≠ .idle

/-- What 10_state.md R27 says of the states before and after one command: (c), (e), (f), (g) and the
second half of (h). -/
abbrev Block.MayBecome (b b' : Block) : Prop :=
  (∀ c : Channel, (b'.minOf c).toNat ≤ (b.minOf c).toNat ∧ (b.maxOf c).toNat ≤ (b'.maxOf c).toNat) ∧
    (b.calState = .calibrated → b'.calState = .calibrated) ∧
    (b.calState ≠ .calibrating → b'.cmin = b.cmin ∧ b'.cmax = b.cmax) ∧
    (b.calState ≠ .calibrated → b'.axis = b.axis ∧ b'.lastRaw = b.lastRaw) ∧
    ∀ c : Channel, (b.minOf c).toNat - (b'.minOf c).toNat ≤ noiseThresh ∧
      (b'.maxOf c).toNat - (b.maxOf c).toNat ≤ noiseThresh

end Sys2Proof.Machine
end

