-- ==== Sys2Proof/Certificates/Slice0/Obligations.lean ====
section
/-! DEFINITION. The statements for the provers. Their right sides are written in the spec's numbers, not
in the model's functions, so that a wrong function makes them false. Channel, axis and slot numbers are
related by the index map of 20_memory.md R31, written out as equations between numbers. -/

namespace Sys2Proof.Claims

open Sys2Proof.Machine

/-- The formula of 44_mapper.md R79 to R81 on the integers, in the numbers of 00_scope.md R4, R5. -/
def interpolate (p lo hi : Nat) : Nat :=
  if hi ≤ lo then 128
  else if p ≤ lo then 0
  else if hi ≤ p then 255
  else (2 * 255 * (p - lo) + (hi - lo)) / (2 * (hi - lo))

/-- The plain distance of two durations (00_scope.md R7). -/
def distance (p q : Word) : Nat :=
  (p.toNat - q.toNat) + (q.toNat - p.toNat)

/-- The signal is present at `ts` (42_signal_health.md R67). -/
abbrev Present (b : Block) (ts : Word) : Prop :=
  (ts - b.tLast).toNat ≤ 250000

/-- Slot 0 passes the slot validator (41_frame_sync.md R63). -/
abbrev InSync (b : Block) : Prop :=
  5000 ≤ (b.slot 0).toNat

/-- The calibration window ends at a POLL at `ts` (43_calibration.md R75). -/
abbrev WindowOver (b : Block) (ts : Word) : Prop :=
  b.calState = .calibrating ∧ 30000000 ≤ (ts - b.calStart).toNat

/-- CAL_STATE after a POLL at `ts` (43_calibration.md R75). -/
def calAfter (b : Block) (ts : Word) : CalState :=
  if WindowOver b ts then .calibrated else b.calState

/-- CALDONE in POLL's response, bit 8 (46_poll.md R95). -/
def calDone (b : Block) (ts : Word) : Word :=
  if WindowOver b ts then 0x100 else 0

/-- What no POLL writes (46_poll.md R90), and the ports it leaves to the clock edge. -/
abbrev PollKeeps (s t : State) : Prop :=
  t.block.frame = s.block.frame ∧ t.block.idx = s.block.idx ∧ t.block.tLast = s.block.tLast ∧
    t.block.calStart = s.block.calStart ∧ t.inputs = s.inputs ∧ t.rspValid = s.rspValid

/-- The calibration bounds are unchanged. -/
abbrev SameBounds (s t : State) : Prop :=
  t.block.cmin = s.block.cmin ∧ t.block.cmax = s.block.cmax

/-- The output filter's memory and the output registers are unchanged. -/
abbrev SameOutputs (s t : State) : Prop :=
  t.block.lastRaw = s.block.lastRaw ∧ t.block.axis = s.block.axis ∧ t.block.button = s.block.button

/-- How many bits of RSP a command can set, by the layouts of 30_encoding.md R47. -/
def responseWidth : Instr → Nat
  | .nop | .rsvdE | .rsvdF => 0
  | .insync | .sigp _ => 1
  | .edge _ | .rdbtn => 2
  | .rdstat => 7
  | .mapch _ | .rdaxis _ => 8
  | .poll _ => 9
  | .rdslot _ | .rdmin _ | .rdmax _ | .rdraw _ | .rdts _ => 32

/-- The read commands RDSLOT to RDTS of 47_readout.md. -/
def isReadCommand : Instr → Bool
  | .rdslot _ | .rdmin _ | .rdmax _ | .rdaxis _ | .rdbtn | .rdstat | .rdraw _ | .rdts _ => true
  | .nop | .edge _ | .poll _ | .insync | .sigp _ | .mapch _ | .rsvdE | .rsvdF => false

/-- The clock edge that `rest` begins with, if it begins, leaves the command port to a held `w`: it shows
neither a reset nor an edge, and no command but `w` itself. -/
abbrev FreeFor (w : CmdWord) (rest : List PortInput) : Prop :=
  ∀ q ∈ rest.head?, q.reset = none ∧ q.edge = none ∧ (q.cmd = none ∨ q.cmd = some w)

/-- CAL_STATE is not Idle, and while it is Calibrating the outputs and LAST_RAW are at their reset values
(46_poll.md R93). -/
abbrev OutputsRest (b : Block) : Prop :=
  b.calState ≠ .idle ∧
    (b.calState = .calibrating →
      b.axis = #v[128, 128, 128, 128] ∧ b.button = #v[false, false] ∧ b.lastRaw = #v[0, 0, 0, 0])

/-- A command with its timestamp operand moved by `d`. -/
def shiftCommand (d : Word) : Instr → Instr
  | .edge ts => .edge (ts + d)
  | .poll ts => .poll (ts + d)
  | .sigp ts => .sigp (ts + d)
  | .nop => .nop
  | .insync => .insync
  | .mapch idx => .mapch idx
  | .rdslot idx => .rdslot idx
  | .rdmin idx => .rdmin idx
  | .rdmax idx => .rdmax idx
  | .rdaxis idx => .rdaxis idx
  | .rdbtn => .rdbtn
  | .rdstat => .rdstat
  | .rdraw idx => .rdraw idx
  | .rdts idx => .rdts idx
  | .rsvdE => .rsvdE
  | .rsvdF => .rsvdF

/-- A block with its two stored timestamps moved by `d`. -/
def shiftBlock (d : Word) (b : Block) : Block :=
  { b with tLast := b.tLast + d, calStart := b.calStart + d }

end Sys2Proof.Claims

open Sys2Proof Sys2Proof.Machine Sys2Proof.Claims

/-! Reset. -/

/-- 70_reset_and_hazards.md R130 with the table of 10_state.md R28. -/
def Obligations.ResetInputSetsEveryElement : Prop :=
  ∀ (s : State) (p : PortInput) (rest : List PortInput) (t0 : Word),
    s.inputs = p :: rest → p.reset = some t0 →
    ∃ t : State, step s = .next t ∧ t.rsp = 0 ∧ t.commit = false ∧
      t.block =
        { frame := #v[0, 0, 0, 0, 0, 0, 0]
          idx := 0
          tLast := t0
          syncTrusted := false
          frameDone := false
          cmin := #v[1500, 1500, 1500, 1500, 1500, 1500]
          cmax := #v[1500, 1500, 1500, 1500, 1500, 1500]
          calState := .calibrating
          calStart := t0
          lastRaw := #v[0, 0, 0, 0]
          axis := #v[128, 128, 128, 128]
          button := #v[false, false] }

/-- 70_reset_and_hazards.md R131: while `rst` is held no command is done, and the state after it carries
the `t0` of the last clock edge, whatever the state was. That each presentation leaves the list is the
model's form (log entries 2 and 5). -/
def Obligations.HeldResetKeepsTheLastReading : Prop :=
  ∀ (s : State) (held rest : List PortInput) (last : PortInput) (t0 : Word),
    (∀ p ∈ held, p.reset.isSome = true) → last.reset = some t0 →
    s.inputs = held ++ last :: rest →
    Host.Core.run Sys2Proof.core (held.length + 1) s = .next (State.resetAt t0 rest)

/-- The invariants (b) and (d) of 10_state.md R27 hold after every reset, and at State.reset (whose
t0 = 0 is the model's choice, log entry 1). -/
def Obligations.InvariantHoldsAfterReset : Prop :=
  (∀ t0 : Word, (Block.reset t0).Inv) ∧ State.reset.block.Inv

/-! The ports. -/

/-- A step runs the decoded command: a word presented alone on the command port (30_encoding.md R50,
R51). The presentation is taken and `rsp_valid` is driven. -/
def Obligations.StepRunsTheDecodedCommand : Prop :=
  ∀ (s : State) (p : PortInput) (rest : List PortInput) (w : CmdWord) (i : Instr),
    s.inputs = p :: rest → p.reset = none → p.edge = none → p.cmd = some w → decode w = i →
    i.wellFormed = true →
    step s = exec i { s with inputs := rest, rspValid := true }

/-- `edge_valid` presents the command word `0x1 ++ edge_ts`; its response is produced and dropped
(30_encoding.md R50, R51). A poll command beside it is held: the next clock edge shows it too, with
whatever else is presented there (R50; what the port shows if the list shows another command then is
log entry 4). -/
def Obligations.EdgePortRunsEdgeFirst : Prop :=
  ∀ (s : State) (p : PortInput) (rest : List PortInput) (ts : Word),
    s.inputs = p :: rest → p.reset = none → p.edge = some ts →
    step s = exec (.edge ts)
      { s with
        inputs := (match p.cmd with
          | none => rest
          | some w => match rest with
            | [] => [{ cmd := some w }]
            | q :: later => { q with cmd := some (q.cmd.getD w) } :: later)
        rspValid := false }

/-- 20_memory.md R37: an edge and a poll command at the same instant are two steps, EDGE first, when the
next clock edge is free for the held command (that a command shown there again is the held one, done once,
is log entry 4); and if that EDGE resynchronizes, a POLL behind it leaves
SYNC_TRUSTED at 1.
A further edge there: TiedCommandIsHeldBehindEdges. A reset there: HeldCommandIsIgnoredAtReset. -/
def Obligations.SimultaneousEdgeGoesBeforePoll : Prop :=
  ∀ (s : State) (ts : Word) (w : CmdWord) (rest : List PortInput),
    s.inputs = { edge := some ts, cmd := some w } :: rest → FreeFor w rest →
    ∃ t u : State,
      exec (.edge ts) { s with inputs := { cmd := some w } :: rest.tail, rspValid := false } = .next t ∧
      exec (decode w) { t with inputs := rest.tail, rspValid := true } = .next u ∧
      Host.Core.run Sys2Proof.core 2 s = .next u ∧
      (s.block.syncTrusted = false → 5000 < (ts - s.block.tLast).toNat →
        (ts - s.block.tLast).toNat < 20000 → u.block.syncTrusted = true)

/-- The model's choice for a clock edge without a command (log entry 3), at the end of the list or at a
presentation of nothing: "the block is idle between commands and loses nothing" (60_exceptions.md R126),
and no response and no commit is driven. -/
def Obligations.IdleClockKeepsTheBlock : Prop :=
  (∀ s : State, s.inputs = [] → step s = .next { s with rspValid := false, commit := false }) ∧
  ∀ (s : State) (p : PortInput) (rest : List PortInput),
    s.inputs = p :: rest → p.reset = none → p.edge = none → p.cmd = none →
    step s = .next { s with inputs := rest, rspValid := false, commit := false }

/-- An edge done through the edge port has the effect of the EDGE command on the block and on `commit`;
`rsp_valid` tells them apart (30_encoding.md R50, R51). That `rsp` too shows the dropped response of the
edge port is the model's choice (log entry 3). -/
def Obligations.EdgePortAgreesWithEdgeCommand : Prop :=
  ∀ (s : State) (ts : Word) (rest : List PortInput),
    ∃ t u : State,
      step { s with inputs := { edge := some ts } :: rest } = .next t ∧
      step { s with inputs := { cmd := some (0x1#4 ++ ts) } :: rest } = .next u ∧
      t.rspValid = false ∧ u = { t with rspValid := true }

/-- The output ports show the registers, and the bits that RDSTAT and RDBTN return, at all times
(30_encoding.md R51). -/
def Obligations.OutputPortsShowTheRegisters : Prop :=
  ∀ s : State, ∃ t u : State,
    exec .rdstat s = .next t ∧ exec .rdbtn s = .next u ∧
      s.outputs.stat = t.rsp.setWidth 7 ∧ s.outputs.btn = u.rsp.setWidth 2 ∧
      s.outputs.axis1 = s.block.axis[0] ∧ s.outputs.axis2 = s.block.axis[1] ∧
      s.outputs.axis3 = s.block.axis[2] ∧ s.outputs.axis4 = s.block.axis[3] ∧
      s.outputs.rspValid = s.rspValid ∧ s.outputs.rsp = s.rsp ∧ s.outputs.commit = s.commit

/-! Encoding. -/

/-- Decode and encode agree on every command with every operand (30_encoding.md R40, R43). -/
def Obligations.DecodeOfEncodeIsTheCommand : Prop :=
  ∀ i : Instr, i.wellFormed = true → decode (encode i) = i

/-- Encoding what a word decodes to gives the word back, but for the ARG bits that format N ignores
(30_encoding.md R41, R45). -/
def Obligations.EncodeOfDecodeIsTheWord : Prop :=
  ∀ w : CmdWord,
    (encode (decode w)).extractLsb' 32 4 = w.extractLsb' 32 4 ∧
      (encode (decode w)).extractLsb' 0 32 =
        if (decode w).format = .n then 0 else w.extractLsb' 0 32

/-- The opcode map of 30_encoding.md R43 for every operand: format N ignores ARG, formats T and I take it
whole (R45). -/
def Obligations.OpcodeMapIsFollowed : Prop :=
  ∀ arg : Word,
    decode (0x0#4 ++ arg) = .nop ∧ decode (0x1#4 ++ arg) = .edge arg ∧
    decode (0x2#4 ++ arg) = .poll arg ∧ decode (0x3#4 ++ arg) = .insync ∧
    decode (0x4#4 ++ arg) = .sigp arg ∧ decode (0x5#4 ++ arg) = .mapch arg ∧
    decode (0x6#4 ++ arg) = .rdslot arg ∧ decode (0x7#4 ++ arg) = .rdmin arg ∧
    decode (0x8#4 ++ arg) = .rdmax arg ∧ decode (0x9#4 ++ arg) = .rdaxis arg ∧
    decode (0xA#4 ++ arg) = .rdbtn ∧ decode (0xB#4 ++ arg) = .rdstat ∧
    decode (0xC#4 ++ arg) = .rdraw arg ∧ decode (0xD#4 ++ arg) = .rdts arg ∧
    decode (0xE#4 ++ arg) = .rsvdE ∧ decode (0xF#4 ++ arg) = .rsvdF

/-- Words of 95_test_vectors.md V-X. -/
def Obligations.ListedWordsDecode : Prop :=
  decode 0x0DEADBEEF = .nop ∧ decode 0x100003A98 = .edge 15000 ∧
    decode 0x201C9C380 = .poll 30000000 ∧ decode 0x3FFFFFFFF = .insync ∧
    decode 0x405F9B190 = .sigp 100250000 ∧ decode 0x500000004 = .mapch 4 ∧
    decode 0xE12345678 = .rsvdE

/-! EDGE. -/

/-- EDGE whole: the four steps of 40_edge_capture.md R56 to R59 in the order of R55, with the range of
R60, and everything EDGE leaves alone. -/
def Obligations.EdgeMeasuresStoresAndResyncs : Prop :=
  ∀ (ts : Word) (s : State) (pulse : Word) (k : Fin 7) (fc rs : Bool),
    pulse = ts - s.block.tLast →
    k = (if s.block.idx = 6 then 0 else s.block.idx + 1) →
    fc = decide (k = 6) →
    rs = decide (s.block.syncTrusted = false ∧ 5000 < pulse.toNat ∧ pulse.toNat < 20000) →
    ∃ t : State, exec (.edge ts) s = .next t ∧
      (∀ i : Fin 7, t.block.slot i =
        if i = k ∨ (rs = true ∧ i = 0) then pulse else s.block.slot i) ∧
      t.block.idx = (if rs = true then 0 else k) ∧
      t.block.tLast = ts ∧
      t.block.syncTrusted = (s.block.syncTrusted || rs) ∧
      t.block.frameDone = (!rs && (s.block.frameDone || fc)) ∧
      SameBounds s t ∧ SameOutputs s t ∧
      t.block.calState = s.block.calState ∧ t.block.calStart = s.block.calStart ∧
      t.rsp = (if rs = true then 2 else 0) + (if fc = true then 1 else 0) ∧
      t.commit = false ∧ t.inputs = s.inputs ∧ t.rspValid = s.rspValid

/-- 95_test_vectors.md X1, 41_frame_sync.md R66: after a resynchronization the frame is in sync, and it
stays so over any commands with at most six further edges, which fill slots 1 to 6. -/
def Obligations.ResyncHoldsForTheWholeFrame : Prop :=
  ∀ (ts : Word) (s t u : State) (is : List Instr),
    s.block.syncTrusted = false →
    5000 < (ts - s.block.tLast).toNat → (ts - s.block.tLast).toNat < 20000 →
    exec (.edge ts) s = .next t →
    (is.filter fun i => match i with | .edge _ => true | _ => false).length ≤ 6 →
    execList is t = .next u →
    u.block.slot 0 = ts - s.block.tLast ∧ u.block.syncTrusted = true ∧
      ∃ v, exec .insync u = .next v ∧ v.rsp = 1

/-- 70_reset_and_hazards.md R137: an untrusted block that measures no pulse strictly between 5000 and
20000 stays untrusted over every run of commands. -/
def Obligations.NoPauseInRangeMeansNoResync : Prop :=
  ∀ (is : List Instr) (s u : State),
    s.block.syncTrusted = false →
    (∀ (before after : List Instr) (ts : Word) (t : State),
      is = before ++ .edge ts :: after → execList before s = .next t →
      ¬(5000 < (ts - t.block.tLast).toNat ∧ (ts - t.block.tLast).toNat < 20000)) →
    execList is s = .next u →
    u.block.syncTrusted = false

/-- The assembler's FRAME (30_encoding.md R52) on a trusted block whose last slot was 6: seven clock
edges fill the seven slots with the seven durations in order and complete the frame. -/
def Obligations.FramePseudoInstructionFillsTheSlots : Prop :=
  ∀ (s : State) (d0 d1 d2 d3 d4 d5 d6 : Word),
    s.block.syncTrusted = true → s.block.idx = 6 →
    s.inputs = (expandLine s.block.tLast (.frame d0 d1 d2 d3 d4 d5 d6)).2 →
    ∃ t : State, Host.Core.run Sys2Proof.core 7 s = .next t ∧
      t.block.frame = #v[d0, d1, d2, d3, d4, d5, d6] ∧ t.block.idx = 6 ∧
      t.block.frameDone = true ∧ t.block.syncTrusted = true ∧ t.inputs = [] ∧
      t.block.tLast = (expandLine s.block.tLast (.frame d0 d1 d2 d3 d4 d5 d6)).1

/-! INSYNC, SIGP. -/

/-- INSYNC (41_frame_sync.md R64) answers the test of R63 and writes nothing. -/
def Obligations.InsyncAnswersTheSlotZeroTest : Prop :=
  ∀ (s : State) (arg : Word),
    decode (0x3#4 ++ arg) = .insync ∧
    exec .insync s = .next
      { s with rsp := if 5000 ≤ (s.block.frame[0]).toNat then 1 else 0, commit := false }

/-- SIGP (42_signal_health.md R68) answers the test of R67 and writes nothing. -/
def Obligations.SigpAnswersTheStalenessTest : Prop :=
  ∀ (s : State) (ts : Word),
    decode (0x4#4 ++ ts) = .sigp ts ∧
    exec (.sigp ts) s = .next
      { s with rsp := if 250000 < (ts - s.block.tLast).toNat then 0 else 1, commit := false }

/-- 42_signal_health.md R70: whatever the block had lost, after an edge every SIGP and every POLL within
250000 µs of it finds the signal present. -/
def Obligations.EdgeBringsTheSignalBack : Prop :=
  ∀ (s t : State) (ts now : Word),
    exec (.edge ts) s = .next t → (now - ts).toNat ≤ 250000 →
    (∃ u, exec (.sigp now) t = .next u ∧ u.rsp = 1) ∧
      ∃ u, exec (.poll now) t = .next u ∧ u.rsp.getLsbD 0 = true

/-! POLL, case by case; the cases exhaust it. -/

/-- A POLL that finds the signal absent (42_signal_health.md R69) holds trust, bounds and outputs; it
clears FRAME_DONE, and the window still runs. -/
def Obligations.PollWithoutSignalHoldsTrustBoundsAndOutputs : Prop :=
  ∀ (s : State) (ts : Word),
    ¬Present s.block ts →
    ∃ t : State, exec (.poll ts) s = .next t ∧ PollKeeps s t ∧ SameBounds s t ∧ SameOutputs s t ∧
      t.block.syncTrusted = s.block.syncTrusted ∧ t.block.frameDone = false ∧
      t.block.calState = calAfter s.block ts ∧ t.rsp = calDone s.block ts ∧ t.commit = true

/-- A POLL that finds the frame out of sync (41_frame_sync.md R65, 60_exceptions.md R116). -/
def Obligations.PollOutOfSyncWithdrawsTrust : Prop :=
  ∀ (s : State) (ts : Word),
    Present s.block ts → ¬InSync s.block →
    ∃ t : State, exec (.poll ts) s = .next t ∧ PollKeeps s t ∧ SameBounds s t ∧ SameOutputs s t ∧
      t.block.syncTrusted = false ∧ t.block.frameDone = false ∧
      t.block.calState = calAfter s.block ts ∧ t.rsp = calDone s.block ts + 1 ∧ t.commit = true

/-- A POLL that records a sample: the new bounds of every channel (43_calibration.md R71, R72). -/
def Obligations.PollRecordsASample : Prop :=
  ∀ (s : State) (ts : Word),
    Present s.block ts → InSync s.block → s.block.calState = .calibrating →
    s.block.frameDone = true →
    ∃ t : State, exec (.poll ts) s = .next t ∧ PollKeeps s t ∧ SameOutputs s t ∧
      (∀ (c : Fin 6) (i : Fin 7) (sample lo hi : Nat), i.val = c.val + 1 →
        sample = (s.block.slot i).toNat → lo = (s.block.minOf c).toNat →
        hi = (s.block.maxOf c).toNat →
        (t.block.minOf c).toNat = (if sample < lo ∧ lo - sample ≤ 200 then sample else lo) ∧
        (t.block.maxOf c).toNat = (if hi < sample ∧ sample - hi ≤ 200 then sample else hi)) ∧
      t.block.syncTrusted = s.block.syncTrusted ∧ t.block.frameDone = false ∧
      t.block.calState = calAfter s.block ts ∧ t.rsp = calDone s.block ts + 7 ∧ t.commit = true

/-- A POLL in sync that has no work: Calibrating without a completed frame, or Idle (46_poll.md R90,
92_eei_decisions.md D21). -/
def Obligations.PollWithoutWorkWritesNoBoundsNoOutputs : Prop :=
  ∀ (s : State) (ts : Word),
    Present s.block ts → InSync s.block →
    (s.block.calState = .idle ∨ (s.block.calState = .calibrating ∧ s.block.frameDone = false)) →
    ∃ t : State, exec (.poll ts) s = .next t ∧ PollKeeps s t ∧ SameBounds s t ∧ SameOutputs s t ∧
      t.block.syncTrusted = s.block.syncTrusted ∧ t.block.frameDone = false ∧
      t.block.calState = calAfter s.block ts ∧ t.rsp = calDone s.block ts + 3 ∧ t.commit = true

/-- A POLL that forwards: every axis whose pulse has moved more than 20 µs, both buttons always
(45_output_filter.md R85 to R87). -/
def Obligations.PollForwardsTheOutputs : Prop :=
  ∀ (s : State) (ts : Word),
    Present s.block ts → InSync s.block → s.block.calState = .calibrated →
    ∃ t : State, exec (.poll ts) s = .next t ∧ PollKeeps s t ∧ SameBounds s t ∧
      (∀ (a : Fin 4) (c : Fin 6) (i : Fin 7), c.val = a.val → i.val = a.val + 1 →
        if 20 < distance (s.block.slot i) (s.block.rawOf a) then
          (t.block.axisOf a).toNat =
            interpolate (s.block.slot i).toNat (s.block.minOf c).toNat (s.block.maxOf c).toNat ∧
          t.block.rawOf a = s.block.slot i ∧ t.rsp.getLsbD (4 + a.val) = true
        else
          t.block.axisOf a = s.block.axisOf a ∧ t.block.rawOf a = s.block.rawOf a ∧
          t.rsp.getLsbD (4 + a.val) = false) ∧
      t.block.buttonOf 0 = decide ((s.block.slot 5).toNat ≤ 1500) ∧
      t.block.buttonOf 1 = decide ((s.block.slot 6).toNat ≤ 1500) ∧
      t.block.syncTrusted = s.block.syncTrusted ∧ t.block.frameDone = false ∧
      t.block.calState = .calibrated ∧
      t.rsp.setWidth 4 = (0xB#4) ∧ t.rsp.toNat < 256 ∧ t.commit = true

/-- 43_calibration.md R75: the end of the window writes CAL_STATE alone, and every POLL, whatever else
it finds, leaves CAL_STATE and reports CALDONE so. -/
def Obligations.WindowEndsAtThirtySeconds : Prop :=
  (∀ (b : Block) (now : Word),
    b.calExpire now = if WindowOver b now then { b with calState := .calibrated } else b) ∧
  ∀ (s : State) (ts : Word), ∃ t : State, exec (.poll ts) s = .next t ∧
    t.block.calState =
      (if s.block.calState = .calibrating ∧ 30000000 ≤ (ts - s.block.calStart).toNat then .calibrated
       else s.block.calState) ∧
    t.rsp.getLsbD 8 =
      decide (s.block.calState = .calibrating ∧ 30000000 ≤ (ts - s.block.calStart).toNat)

/-- 46_poll.md R97: a second POLL with no EDGE between them records nothing; at the same `ts`, unless the
first ended the window, it changes nothing at all; and behind a POLL that forwarded it changes nothing
at any `ts` and forwards no axis. -/
def Obligations.SecondPollRecordsNothing : Prop :=
  ∀ (s t u : State) (ts now : Word),
    exec (.poll ts) s = .next t → exec (.poll now) t = .next u →
    SameBounds t u ∧ u.rsp.getLsbD 2 = false ∧ u.commit = true ∧
      (now = ts → t.block.calState = s.block.calState → u.block = t.block) ∧
      (t.rsp.getLsbD 3 = true → u.block = t.block ∧ u.rsp.extractLsb' 4 4 = 0)

/-- The response bits of a POLL (46_poll.md R95): INSYNC only with PRESENT, SAMPLED or FWD only with
INSYNC and never both, UPD only with FWD. -/
def Obligations.PollResponseBitsAreConsistent : Prop :=
  ∀ (s t : State) (ts : Word), exec (.poll ts) s = .next t →
    (t.rsp.getLsbD 0 = decide (Present s.block ts)) ∧
    (t.rsp.getLsbD 1 = true → t.rsp.getLsbD 0 = true) ∧
    (t.rsp.getLsbD 2 = true → t.rsp.getLsbD 1 = true ∧ t.rsp.getLsbD 3 = false) ∧
    (t.rsp.getLsbD 3 = true → t.rsp.getLsbD 1 = true ∧ t.rsp.getLsbD 2 = false) ∧
    (t.rsp.getLsbD 3 = false → t.rsp.extractLsb' 4 4 = 0)

/-- 30_encoding.md R48: `commit` is 1 in the step of a POLL and 0 in the step of every other command, and
the sink then sees AXIS and BUTTON as they stand after it. -/
def Obligations.CommitWithPollAndNothingElse : Prop :=
  ∀ (i : Instr) (s t : State), exec i s = .next t →
    (t.outputs.commit = true ↔ ∃ ts, i = .poll ts) ∧
      t.outputs.axis1 = t.block.axisOf 0 ∧ t.outputs.axis2 = t.block.axisOf 1 ∧
      t.outputs.axis3 = t.block.axisOf 2 ∧ t.outputs.axis4 = t.block.axisOf 3 ∧
      t.outputs.btn.getLsbD 0 = t.block.buttonOf 0 ∧ t.outputs.btn.getLsbD 1 = t.block.buttonOf 1

/-! The mapper. -/

/-- MAPCH (44_mapper.md R84) by the function of R78: axes 1 to 4, buttons 5 and 6, 0 otherwise. -/
def Obligations.MapchAnswersTheMapping : Prop :=
  ∀ (s : State) (idx : Word),
    decode (0x5#4 ++ idx) = .mapch idx ∧
    (∀ (c : Fin 6) (i : Fin 7), i.val = c.val + 1 → idx.toNat = i.val → i.val ≤ 4 →
      exec (.mapch idx) s = .next
        { s with
          rsp := BitVec.ofNat 32
            (interpolate (s.block.slot i).toNat (s.block.minOf c).toNat (s.block.maxOf c).toNat)
          commit := false }) ∧
    (∀ i : Fin 7, idx.toNat = i.val → 5 ≤ i.val →
      exec (.mapch idx) s = .next
        { s with rsp := if 1500 < (s.block.slot i).toNat then 1 else 0, commit := false }) ∧
    (idx.toNat = 0 ∨ 7 ≤ idx.toNat → exec (.mapch idx) s = .next { s with rsp := 0, commit := false })

/-- 44_mapper.md R80, R81: the guard of the degenerate range first, then saturation at both ends. -/
def Obligations.MapperGuardsAndSaturates : Prop :=
  ∀ p lo hi : Word,
    (hi.toNat ≤ lo.toNat → mapAxis p lo hi = 128) ∧
    (lo.toNat < hi.toNat → p.toNat ≤ lo.toNat → mapAxis p lo hi = 0) ∧
    (lo.toNat < hi.toNat → hi.toNat ≤ p.toNat → mapAxis p lo hi = 255)

/-- 44_mapper.md R79: between the bounds the value is the nearest integer to 255 (p - lo) / (hi - lo),
halves up; nothing is lost in eight bits. -/
def Obligations.InterpolationRoundsHalfUp : Prop :=
  ∀ (p lo hi : Word) (w v : Nat),
    lo.toNat < p.toNat → p.toNat < hi.toNat →
    w = hi.toNat - lo.toNat → v = (mapAxis p lo hi).toNat →
    2 * w * v ≤ 2 * 255 * (p.toNat - lo.toNat) + w ∧
      2 * 255 * (p.toNat - lo.toNat) + w < 2 * w * (v + 1)

/-- A longer pulse never maps to a smaller axis value; nothing wraps (44_mapper.md R79 to R81). -/
def Obligations.InterpolationIsMonotone : Prop :=
  ∀ p q lo hi : Word, p.toNat ≤ q.toNat → (mapAxis p lo hi).toNat ≤ (mapAxis q lo hi).toNat

/-! The loops. -/

/-- 43_calibration.md R71: the order of the loop over the six channels does not matter. -/
def Obligations.CalibrationOrderDoesNotMatter : Prop :=
  ∀ (b : Block) (cs : List (Fin 6)), cs.Perm [0, 1, 2, 3, 4, 5] →
    cs.foldl Block.recordChannel b = b.calRecord

/-- 45_output_filter.md R87: the order of the six channels of a forward pass does not matter. -/
def Obligations.ForwardOrderDoesNotMatter : Prop :=
  ∀ (b : Block) (cs : List (Fin 4 ⊕ Fin 2)),
    cs.Perm [.inl 0, .inl 1, .inl 2, .inl 3, .inr 0, .inr 1] →
    cs.foldl (fun b c => match c with | .inl a => b.filterAxis a | .inr j => b.forwardButton j) b =
      b.forwardPass

/-! NOP, the read commands, the reserved opcodes. -/

/-- NOP (47_readout.md R100). -/
def Obligations.NopAnswersZero : Prop :=
  ∀ (s : State) (arg : Word),
    decode (0x0#4 ++ arg) = .nop ∧ exec .nop s = .next { s with rsp := 0, commit := false }

/-- RDSLOT (47_readout.md R101). -/
def Obligations.RdslotReadsFrame : Prop :=
  ∀ (s : State) (idx : Word),
    decode (0x6#4 ++ idx) = .rdslot idx ∧
    exec (.rdslot idx) s = .next
      { s with
        rsp := if h : idx.toNat < 7 then s.block.frame[idx.toNat] else 0
        commit := false }

/-- RDMIN (47_readout.md R102): channel c is held at place c - 1. -/
def Obligations.RdminReadsTheMinimum : Prop :=
  ∀ (s : State) (idx : Word),
    decode (0x7#4 ++ idx) = .rdmin idx ∧
    exec (.rdmin idx) s = .next
      { s with
        rsp := if h : 1 ≤ idx.toNat ∧ idx.toNat - 1 < 6 then s.block.cmin[idx.toNat - 1]'h.2 else 0
        commit := false }

/-- RDMAX (47_readout.md R103). -/
def Obligations.RdmaxReadsTheMaximum : Prop :=
  ∀ (s : State) (idx : Word),
    decode (0x8#4 ++ idx) = .rdmax idx ∧
    exec (.rdmax idx) s = .next
      { s with
        rsp := if h : 1 ≤ idx.toNat ∧ idx.toNat - 1 < 6 then s.block.cmax[idx.toNat - 1]'h.2 else 0
        commit := false }

/-- RDAXIS (47_readout.md R104): the value last forwarded, zero-extended. -/
def Obligations.RdaxisReadsTheOutput : Prop :=
  ∀ (s : State) (idx : Word),
    decode (0x9#4 ++ idx) = .rdaxis idx ∧
    exec (.rdaxis idx) s = .next
      { s with
        rsp := if h : 1 ≤ idx.toNat ∧ idx.toNat - 1 < 4 then
            (s.block.axis[idx.toNat - 1]'h.2).setWidth 32
          else 0
        commit := false }

/-- RDBTN (47_readout.md R105): BUTTON[1] ++ BUTTON[0]. -/
def Obligations.RdbtnReadsBothButtons : Prop :=
  ∀ (s : State) (arg : Word),
    decode (0xA#4 ++ arg) = .rdbtn ∧
    exec .rdbtn s = .next
      { s with
        rsp := (if s.block.button[1] = true then 2 else 0) + (if s.block.button[0] = true then 1 else 0)
        commit := false }

/-- RDSTAT (47_readout.md R106) with the layout of 10_state.md R24; FRAME_DONE is not cleared. -/
def Obligations.RdstatReadsTheStatusWord : Prop :=
  ∀ (s : State) (arg : Word),
    decode (0xB#4 ++ arg) = .rdstat ∧
    exec .rdstat s = .next
      { s with
        rsp := BitVec.ofNat 32
          (16 * s.block.idx.val +
            4 * (match s.block.calState with | .idle => 0 | .calibrating => 1 | .calibrated => 2) +
            2 * (if s.block.frameDone = true then 1 else 0) +
            (if s.block.syncTrusted = true then 1 else 0))
        commit := false }

/-- RDRAW (47_readout.md R107). -/
def Obligations.RdrawReadsTheSnapshot : Prop :=
  ∀ (s : State) (idx : Word),
    decode (0xC#4 ++ idx) = .rdraw idx ∧
    exec (.rdraw idx) s = .next
      { s with
        rsp := if h : 1 ≤ idx.toNat ∧ idx.toNat - 1 < 4 then s.block.lastRaw[idx.toNat - 1]'h.2 else 0
        commit := false }

/-- RDTS (47_readout.md R108). -/
def Obligations.RdtsReadsTheTimestamps : Prop :=
  ∀ (s : State) (idx : Word),
    decode (0xD#4 ++ idx) = .rdts idx ∧
    exec (.rdts idx) s = .next
      { s with
        rsp := if idx = 0 then s.block.tLast else if idx = 1 then s.block.calStart else 0
        commit := false }

/-- The reserved opcodes (47_readout.md R109): the same step as NOP, whatever ARG holds. -/
def Obligations.ReservedOpcodesActAsNop : Prop :=
  ∀ (s : State) (arg : Word),
    decode (0xE#4 ++ arg) = .rsvdE ∧ decode (0xF#4 ++ arg) = .rsvdF ∧
    exec .rsvdE s = .next { s with rsp := 0, commit := false } ∧
    exec .rsvdF s = .next { s with rsp := 0, commit := false }

/-- Bits of RSP that 30_encoding.md R47 does not list are 0. -/
def Obligations.UnlistedResponseBitsAreZero : Prop :=
  ∀ (i : Instr) (s t : State), exec i s = .next t → t.rsp.toNat < 2 ^ responseWidth i

/-! The whole machine. -/

/-- 60_exceptions.md R113: every one of the 2^36 command words is done and returns, and no run of the
machine ever stops. -/
def Obligations.NothingEverStops : Prop :=
  (∀ (w : CmdWord) (s : State), ∃ t, exec (decode w) s = .next t) ∧
    ∀ (k : Nat) (s : State), NeverStops k s

/-- The writers of 10_state.md R26, for every command. -/
def Obligations.EachElementHasItsWriters : Prop :=
  ∀ (i : Instr) (s t : State), exec i s = .next t →
    (i.isQuery = true → t.block = s.block) ∧
    ((∀ ts, i ≠ .edge ts) →
      t.block.frame = s.block.frame ∧ t.block.idx = s.block.idx ∧ t.block.tLast = s.block.tLast ∧
        (t.block.syncTrusted = true → s.block.syncTrusted = true) ∧
        (t.block.frameDone = true → s.block.frameDone = true)) ∧
    ((∀ ts, i ≠ .poll ts) →
      SameBounds s t ∧ SameOutputs s t ∧ t.block.calState = s.block.calState ∧
        (s.block.syncTrusted = true → t.block.syncTrusted = true)) ∧
    t.block.calStart = s.block.calStart

/-- The invariants (b) and (d) of 10_state.md R27 are kept by every clock edge. -/
def Obligations.InvariantIsKeptByEveryStep : Prop :=
  ∀ s t : State, s.block.Inv → step s = .next t → t.block.Inv

/-- What 10_state.md R27 says of one command: (c), (e), (f), (g), (h). -/
def Obligations.OneCommandMovesTheBlockAsAllowed : Prop :=
  ∀ (i : Instr) (s t : State), exec i s = .next t →
    s.block.MayBecome t.block ∧ ((∃ ts, i = .edge ts) → SameBounds s t)

/-- 43_calibration.md R77: along every run of commands the range of every channel only widens, and the
bounds stay ordered. -/
def Obligations.CalibrationRangeOnlyWidens : Prop :=
  ∀ (is : List Instr) (s t : State), s.block.Inv → execList is s = .next t →
    ∀ c : Fin 6,
      (t.block.minOf c).toNat ≤ (s.block.minOf c).toNat ∧
      (s.block.maxOf c).toNat ≤ (t.block.maxOf c).toNat ∧
      (s.block.maxOf c).toNat - (s.block.minOf c).toNat ≤
        (t.block.maxOf c).toNat - (t.block.minOf c).toNat ∧
      (t.block.minOf c).toNat ≤ (t.block.maxOf c).toNat

/-- 43_calibration.md R76: once Calibrated, no run of commands moves a bound, CAL_START or CAL_STATE;
no run ever writes CAL_START, or takes a bound that has left 1500 back to it; no command writes CAL_STATE
but a POLL that ends the window. -/
def Obligations.CalibratedIsForEver : Prop :=
  (∀ (is : List Instr) (s t : State), s.block.calState = .calibrated → execList is s = .next t →
    t.block.calState = .calibrated ∧ SameBounds s t ∧ t.block.calStart = s.block.calStart) ∧
  (∀ (is : List Instr) (s t : State), s.block.Inv → execList is s = .next t →
    t.block.calStart = s.block.calStart ∧
      ∀ c : Fin 6,
        ((s.block.minOf c).toNat < 1500 → (t.block.minOf c).toNat < 1500) ∧
        (1500 < (s.block.maxOf c).toNat → 1500 < (t.block.maxOf c).toNat)) ∧
  ∀ (i : Instr) (s t : State), exec i s = .next t →
    t.block.calState = s.block.calState ∨
      (t.block.calState = .calibrated ∧ ∃ ts, i = .poll ts ∧ WindowOver s.block ts)

/-- 46_poll.md R93: the outputs keep their reset values as long as the window has not ended. Every reset
starts so, and every clock edge keeps it, whatever is presented. -/
def Obligations.OutputsRestUntilCalibrated : Prop :=
  (∀ t0 : Word, OutputsRest (Block.reset t0)) ∧
    ∀ s t : State, OutputsRest s.block → step s = .next t → OutputsRest t.block

/-- 20_memory.md R35: queries before a command change nothing that it or any later command sees; POLL
clears FRAME_DONE; RDSTAT shows it and does not. -/
def Obligations.QueriesAreInvisible : Prop :=
  (∀ (qs js : List Instr) (j : Instr) (s : State), (∀ q ∈ qs, q.isQuery = true) →
    execList (qs ++ j :: js) s = execList (j :: js) s) ∧
  (∀ (s t : State) (ts : Word), exec (.poll ts) s = .next t → t.block.frameDone = false) ∧
  ∀ s t : State, exec .rdstat s = .next t →
    t.rsp.getLsbD 1 = s.block.frameDone ∧ t.block.frameDone = s.block.frameDone

/-- 60_exceptions.md R126: the eight read commands of 47_readout.md make every element visible; two blocks
that answer each of them alike are equal. -/
def Obligations.ReadCommandsShowTheWholeBlock : Prop :=
  ∀ s s' : State,
    (∀ (i : Instr) (t t' : State), isReadCommand i = true → exec i s = .next t →
      exec i s' = .next t' → t.rsp = t'.rsp) →
    s.block = s'.block

/-- Timestamps enter by their differences modulo 2^32 alone (00_scope.md R7, 92_eei_decisions.md D1):
moving the clock by any `d` moves the two stored timestamps and nothing else, over every run; only RDTS,
which returns a timestamp, could tell. -/
def Obligations.ClockOffsetIsInvisible : Prop :=
  ∀ (d : Word) (is : List Instr) (s t s' : State),
    s'.block = shiftBlock d s.block → execList is s = .next t →
    ∃ t', execList (is.map (shiftCommand d)) s' = .next t' ∧ t'.block = shiftBlock d t.block ∧
      (∀ i : Instr, (∀ idx, i ≠ .rdts idx) → ∃ u u', exec i t = .next u ∧
        exec (shiftCommand d i) t' = .next u' ∧ u'.rsp = u.rsp ∧ u'.commit = u.commit)

/-! The held command, the outputs along runs, one step per command. -/

/-- The model's reading of 30_encoding.md R50 and 20_memory.md R37 (log entry 4, DEDUCED; R50's own words
put the command on the next clock edge): a command presented beside an edge waits, held, while every
further clock edge shows an edge again; the edges are done in order and the command once, behind the last
of them, whether or not the list shows it again. -/
def Obligations.TiedCommandIsHeldBehindEdges : Prop :=
  ∀ (s : State) (p : PortInput) (qs rest : List PortInput) (w : CmdWord),
    s.inputs = p :: qs ++ rest → p.cmd = some w →
    (∀ q ∈ p :: qs, q.reset = none ∧ q.edge.isSome = true ∧ (q.cmd = none ∨ q.cmd = some w)) →
    FreeFor w rest →
    ∃ t u : State,
      execList ((p :: qs).filterMap fun q => q.edge.map Instr.edge) s = .next t ∧
      exec (decode w) { t with inputs := rest.tail, rspValid := true } = .next u ∧
      Host.Core.run Sys2Proof.core (qs.length + 2) s = .next u

/-- 70_reset_and_hazards.md R131: a reset at the clock edge behind a tie comes at its own clock edge, and
the command held there (log entry 4) is ignored. That it is then gone is log entry 5. -/
def Obligations.HeldCommandIsIgnoredAtReset : Prop :=
  ∀ (s : State) (p q : PortInput) (rest : List PortInput) (t0 : Word),
    s.inputs = p :: q :: rest → p.reset = none → p.edge.isSome = true → q.reset = some t0 →
    Host.Core.run Sys2Proof.core 2 s = .next (State.resetAt t0 rest)

/-- 46_poll.md R93 along runs of commands: as long as the window has not ended, every run from a reset
leaves the outputs at their reset values. -/
def Obligations.OutputsRestOverRunsFromReset : Prop :=
  ∀ (is : List Instr) (s t : State) (t0 : Word), s.block = Block.reset t0 →
    execList is s = .next t → t.block.calState = .calibrating →
    t.block.axis = #v[128, 128, 128, 128] ∧ t.block.button = #v[false, false] ∧
      t.block.lastRaw = #v[0, 0, 0, 0]

/-- 70_reset_and_hazards.md R146 in the model's form of a step (log entry 9): a clock edge does one
command whole, or a reset, or nothing; what a command does depends on the block and the command with its
`ts` alone; and any number of clock edges without a command before it do not change the block. That such
a clock edge keeps RSP and drives `rsp_valid` and `commit` to 0 is the model's choice (log entry 3). -/
def Obligations.OneStepPerCommandAndNoOtherTime : Prop :=
  (∀ s : State, ∃ t : State, step s = .next t ∧
    (t = { s with inputs := t.inputs, rspValid := false, commit := false } ∨
      (∃ t0, t = State.resetAt t0 t.inputs) ∨
      ∃ (i : Instr) (v : Bool), exec i { s with inputs := t.inputs, rspValid := v } = .next t)) ∧
  (∀ (i : Instr) (s s' : State), s.block = s'.block →
    ∃ t t' : State, exec i s = .next t ∧ exec i s' = .next t' ∧
      t.block = t'.block ∧ t.rsp = t'.rsp ∧ t.commit = t'.commit) ∧
  ∀ (k : Nat) (s : State) (rest : List PortInput),
    s.inputs = List.replicate k { reset := none, edge := none, cmd := none } ++ rest →
    ∃ t : State, Host.Core.run Sys2Proof.core k s = .next t ∧
      t.block = s.block ∧ t.rsp = s.rsp ∧ t.inputs = rest
end

