-- ==== Sys2Proof/Laws/State.lean ====
section
/-! SUPPORT. One lemma per field per update of the state, and per register read per update: no later
proof unfolds a record update. -/

namespace Sys2Proof.Machine

variable (b : Block) (s : State)

/-! `setSlot` writes `frame` alone. -/

@[simp] theorem Block.setSlot_frame (i : Slot) (v : Word) : (b.setSlot i v).frame = b.frame.set i v := rfl
@[simp] theorem Block.setSlot_idx (i : Slot) (v : Word) : (b.setSlot i v).idx = b.idx := rfl
@[simp] theorem Block.setSlot_tLast (i : Slot) (v : Word) : (b.setSlot i v).tLast = b.tLast := rfl
@[simp] theorem Block.setSlot_syncTrusted (i : Slot) (v : Word) : (b.setSlot i v).syncTrusted = b.syncTrusted := rfl
@[simp] theorem Block.setSlot_frameDone (i : Slot) (v : Word) : (b.setSlot i v).frameDone = b.frameDone := rfl
@[simp] theorem Block.setSlot_cmin (i : Slot) (v : Word) : (b.setSlot i v).cmin = b.cmin := rfl
@[simp] theorem Block.setSlot_cmax (i : Slot) (v : Word) : (b.setSlot i v).cmax = b.cmax := rfl
@[simp] theorem Block.setSlot_calState (i : Slot) (v : Word) : (b.setSlot i v).calState = b.calState := rfl
@[simp] theorem Block.setSlot_calStart (i : Slot) (v : Word) : (b.setSlot i v).calStart = b.calStart := rfl
@[simp] theorem Block.setSlot_lastRaw (i : Slot) (v : Word) : (b.setSlot i v).lastRaw = b.lastRaw := rfl
@[simp] theorem Block.setSlot_axis (i : Slot) (v : Word) : (b.setSlot i v).axis = b.axis := rfl
@[simp] theorem Block.setSlot_button (i : Slot) (v : Word) : (b.setSlot i v).button = b.button := rfl

/-! `setIdx` writes `idx` alone. -/

@[simp] theorem Block.setIdx_frame (k : Slot) : (b.setIdx k).frame = b.frame := rfl
@[simp] theorem Block.setIdx_idx (k : Slot) : (b.setIdx k).idx = k := rfl
@[simp] theorem Block.setIdx_tLast (k : Slot) : (b.setIdx k).tLast = b.tLast := rfl
@[simp] theorem Block.setIdx_syncTrusted (k : Slot) : (b.setIdx k).syncTrusted = b.syncTrusted := rfl
@[simp] theorem Block.setIdx_frameDone (k : Slot) : (b.setIdx k).frameDone = b.frameDone := rfl
@[simp] theorem Block.setIdx_cmin (k : Slot) : (b.setIdx k).cmin = b.cmin := rfl
@[simp] theorem Block.setIdx_cmax (k : Slot) : (b.setIdx k).cmax = b.cmax := rfl
@[simp] theorem Block.setIdx_calState (k : Slot) : (b.setIdx k).calState = b.calState := rfl
@[simp] theorem Block.setIdx_calStart (k : Slot) : (b.setIdx k).calStart = b.calStart := rfl
@[simp] theorem Block.setIdx_lastRaw (k : Slot) : (b.setIdx k).lastRaw = b.lastRaw := rfl
@[simp] theorem Block.setIdx_axis (k : Slot) : (b.setIdx k).axis = b.axis := rfl
@[simp] theorem Block.setIdx_button (k : Slot) : (b.setIdx k).button = b.button := rfl

/-! `setTLast` writes `tLast` alone. -/

@[simp] theorem Block.setTLast_frame (ts : Word) : (b.setTLast ts).frame = b.frame := rfl
@[simp] theorem Block.setTLast_idx (ts : Word) : (b.setTLast ts).idx = b.idx := rfl
@[simp] theorem Block.setTLast_tLast (ts : Word) : (b.setTLast ts).tLast = ts := rfl
@[simp] theorem Block.setTLast_syncTrusted (ts : Word) : (b.setTLast ts).syncTrusted = b.syncTrusted := rfl
@[simp] theorem Block.setTLast_frameDone (ts : Word) : (b.setTLast ts).frameDone = b.frameDone := rfl
@[simp] theorem Block.setTLast_cmin (ts : Word) : (b.setTLast ts).cmin = b.cmin := rfl
@[simp] theorem Block.setTLast_cmax (ts : Word) : (b.setTLast ts).cmax = b.cmax := rfl
@[simp] theorem Block.setTLast_calState (ts : Word) : (b.setTLast ts).calState = b.calState := rfl
@[simp] theorem Block.setTLast_calStart (ts : Word) : (b.setTLast ts).calStart = b.calStart := rfl
@[simp] theorem Block.setTLast_lastRaw (ts : Word) : (b.setTLast ts).lastRaw = b.lastRaw := rfl
@[simp] theorem Block.setTLast_axis (ts : Word) : (b.setTLast ts).axis = b.axis := rfl
@[simp] theorem Block.setTLast_button (ts : Word) : (b.setTLast ts).button = b.button := rfl

/-! `setSyncTrusted` writes `syncTrusted` alone. -/

@[simp] theorem Block.setSyncTrusted_frame (v : Bool) : (b.setSyncTrusted v).frame = b.frame := rfl
@[simp] theorem Block.setSyncTrusted_idx (v : Bool) : (b.setSyncTrusted v).idx = b.idx := rfl
@[simp] theorem Block.setSyncTrusted_tLast (v : Bool) : (b.setSyncTrusted v).tLast = b.tLast := rfl
@[simp] theorem Block.setSyncTrusted_syncTrusted (v : Bool) : (b.setSyncTrusted v).syncTrusted = v := rfl
@[simp] theorem Block.setSyncTrusted_frameDone (v : Bool) : (b.setSyncTrusted v).frameDone = b.frameDone := rfl
@[simp] theorem Block.setSyncTrusted_cmin (v : Bool) : (b.setSyncTrusted v).cmin = b.cmin := rfl
@[simp] theorem Block.setSyncTrusted_cmax (v : Bool) : (b.setSyncTrusted v).cmax = b.cmax := rfl
@[simp] theorem Block.setSyncTrusted_calState (v : Bool) : (b.setSyncTrusted v).calState = b.calState := rfl
@[simp] theorem Block.setSyncTrusted_calStart (v : Bool) : (b.setSyncTrusted v).calStart = b.calStart := rfl
@[simp] theorem Block.setSyncTrusted_lastRaw (v : Bool) : (b.setSyncTrusted v).lastRaw = b.lastRaw := rfl
@[simp] theorem Block.setSyncTrusted_axis (v : Bool) : (b.setSyncTrusted v).axis = b.axis := rfl
@[simp] theorem Block.setSyncTrusted_button (v : Bool) : (b.setSyncTrusted v).button = b.button := rfl

/-! `setFrameDone` writes `frameDone` alone. -/

@[simp] theorem Block.setFrameDone_frame (v : Bool) : (b.setFrameDone v).frame = b.frame := rfl
@[simp] theorem Block.setFrameDone_idx (v : Bool) : (b.setFrameDone v).idx = b.idx := rfl
@[simp] theorem Block.setFrameDone_tLast (v : Bool) : (b.setFrameDone v).tLast = b.tLast := rfl
@[simp] theorem Block.setFrameDone_syncTrusted (v : Bool) : (b.setFrameDone v).syncTrusted = b.syncTrusted := rfl
@[simp] theorem Block.setFrameDone_frameDone (v : Bool) : (b.setFrameDone v).frameDone = v := rfl
@[simp] theorem Block.setFrameDone_cmin (v : Bool) : (b.setFrameDone v).cmin = b.cmin := rfl
@[simp] theorem Block.setFrameDone_cmax (v : Bool) : (b.setFrameDone v).cmax = b.cmax := rfl
@[simp] theorem Block.setFrameDone_calState (v : Bool) : (b.setFrameDone v).calState = b.calState := rfl
@[simp] theorem Block.setFrameDone_calStart (v : Bool) : (b.setFrameDone v).calStart = b.calStart := rfl
@[simp] theorem Block.setFrameDone_lastRaw (v : Bool) : (b.setFrameDone v).lastRaw = b.lastRaw := rfl
@[simp] theorem Block.setFrameDone_axis (v : Bool) : (b.setFrameDone v).axis = b.axis := rfl
@[simp] theorem Block.setFrameDone_button (v : Bool) : (b.setFrameDone v).button = b.button := rfl

/-! `setMin` writes `cmin` alone. -/

@[simp] theorem Block.setMin_frame (c : Channel) (v : Word) : (b.setMin c v).frame = b.frame := rfl
@[simp] theorem Block.setMin_idx (c : Channel) (v : Word) : (b.setMin c v).idx = b.idx := rfl
@[simp] theorem Block.setMin_tLast (c : Channel) (v : Word) : (b.setMin c v).tLast = b.tLast := rfl
@[simp] theorem Block.setMin_syncTrusted (c : Channel) (v : Word) : (b.setMin c v).syncTrusted = b.syncTrusted := rfl
@[simp] theorem Block.setMin_frameDone (c : Channel) (v : Word) : (b.setMin c v).frameDone = b.frameDone := rfl
@[simp] theorem Block.setMin_cmin (c : Channel) (v : Word) : (b.setMin c v).cmin = b.cmin.set c v := rfl
@[simp] theorem Block.setMin_cmax (c : Channel) (v : Word) : (b.setMin c v).cmax = b.cmax := rfl
@[simp] theorem Block.setMin_calState (c : Channel) (v : Word) : (b.setMin c v).calState = b.calState := rfl
@[simp] theorem Block.setMin_calStart (c : Channel) (v : Word) : (b.setMin c v).calStart = b.calStart := rfl
@[simp] theorem Block.setMin_lastRaw (c : Channel) (v : Word) : (b.setMin c v).lastRaw = b.lastRaw := rfl
@[simp] theorem Block.setMin_axis (c : Channel) (v : Word) : (b.setMin c v).axis = b.axis := rfl
@[simp] theorem Block.setMin_button (c : Channel) (v : Word) : (b.setMin c v).button = b.button := rfl

/-! `setMax` writes `cmax` alone. -/

@[simp] theorem Block.setMax_frame (c : Channel) (v : Word) : (b.setMax c v).frame = b.frame := rfl
@[simp] theorem Block.setMax_idx (c : Channel) (v : Word) : (b.setMax c v).idx = b.idx := rfl
@[simp] theorem Block.setMax_tLast (c : Channel) (v : Word) : (b.setMax c v).tLast = b.tLast := rfl
@[simp] theorem Block.setMax_syncTrusted (c : Channel) (v : Word) : (b.setMax c v).syncTrusted = b.syncTrusted := rfl
@[simp] theorem Block.setMax_frameDone (c : Channel) (v : Word) : (b.setMax c v).frameDone = b.frameDone := rfl
@[simp] theorem Block.setMax_cmin (c : Channel) (v : Word) : (b.setMax c v).cmin = b.cmin := rfl
@[simp] theorem Block.setMax_cmax (c : Channel) (v : Word) : (b.setMax c v).cmax = b.cmax.set c v := rfl
@[simp] theorem Block.setMax_calState (c : Channel) (v : Word) : (b.setMax c v).calState = b.calState := rfl
@[simp] theorem Block.setMax_calStart (c : Channel) (v : Word) : (b.setMax c v).calStart = b.calStart := rfl
@[simp] theorem Block.setMax_lastRaw (c : Channel) (v : Word) : (b.setMax c v).lastRaw = b.lastRaw := rfl
@[simp] theorem Block.setMax_axis (c : Channel) (v : Word) : (b.setMax c v).axis = b.axis := rfl
@[simp] theorem Block.setMax_button (c : Channel) (v : Word) : (b.setMax c v).button = b.button := rfl

/-! `setCalState` writes `calState` alone. -/

@[simp] theorem Block.setCalState_frame (v : CalState) : (b.setCalState v).frame = b.frame := rfl
@[simp] theorem Block.setCalState_idx (v : CalState) : (b.setCalState v).idx = b.idx := rfl
@[simp] theorem Block.setCalState_tLast (v : CalState) : (b.setCalState v).tLast = b.tLast := rfl
@[simp] theorem Block.setCalState_syncTrusted (v : CalState) : (b.setCalState v).syncTrusted = b.syncTrusted := rfl
@[simp] theorem Block.setCalState_frameDone (v : CalState) : (b.setCalState v).frameDone = b.frameDone := rfl
@[simp] theorem Block.setCalState_cmin (v : CalState) : (b.setCalState v).cmin = b.cmin := rfl
@[simp] theorem Block.setCalState_cmax (v : CalState) : (b.setCalState v).cmax = b.cmax := rfl
@[simp] theorem Block.setCalState_calState (v : CalState) : (b.setCalState v).calState = v := rfl
@[simp] theorem Block.setCalState_calStart (v : CalState) : (b.setCalState v).calStart = b.calStart := rfl
@[simp] theorem Block.setCalState_lastRaw (v : CalState) : (b.setCalState v).lastRaw = b.lastRaw := rfl
@[simp] theorem Block.setCalState_axis (v : CalState) : (b.setCalState v).axis = b.axis := rfl
@[simp] theorem Block.setCalState_button (v : CalState) : (b.setCalState v).button = b.button := rfl

/-! `setRaw` writes `lastRaw` alone. -/

@[simp] theorem Block.setRaw_frame (a : Axis) (v : Word) : (b.setRaw a v).frame = b.frame := rfl
@[simp] theorem Block.setRaw_idx (a : Axis) (v : Word) : (b.setRaw a v).idx = b.idx := rfl
@[simp] theorem Block.setRaw_tLast (a : Axis) (v : Word) : (b.setRaw a v).tLast = b.tLast := rfl
@[simp] theorem Block.setRaw_syncTrusted (a : Axis) (v : Word) : (b.setRaw a v).syncTrusted = b.syncTrusted := rfl
@[simp] theorem Block.setRaw_frameDone (a : Axis) (v : Word) : (b.setRaw a v).frameDone = b.frameDone := rfl
@[simp] theorem Block.setRaw_cmin (a : Axis) (v : Word) : (b.setRaw a v).cmin = b.cmin := rfl
@[simp] theorem Block.setRaw_cmax (a : Axis) (v : Word) : (b.setRaw a v).cmax = b.cmax := rfl
@[simp] theorem Block.setRaw_calState (a : Axis) (v : Word) : (b.setRaw a v).calState = b.calState := rfl
@[simp] theorem Block.setRaw_calStart (a : Axis) (v : Word) : (b.setRaw a v).calStart = b.calStart := rfl
@[simp] theorem Block.setRaw_lastRaw (a : Axis) (v : Word) : (b.setRaw a v).lastRaw = b.lastRaw.set a v := rfl
@[simp] theorem Block.setRaw_axis (a : Axis) (v : Word) : (b.setRaw a v).axis = b.axis := rfl
@[simp] theorem Block.setRaw_button (a : Axis) (v : Word) : (b.setRaw a v).button = b.button := rfl

/-! `setAxis` writes `axis` alone. -/

@[simp] theorem Block.setAxis_frame (a : Axis) (v : AxisVal) : (b.setAxis a v).frame = b.frame := rfl
@[simp] theorem Block.setAxis_idx (a : Axis) (v : AxisVal) : (b.setAxis a v).idx = b.idx := rfl
@[simp] theorem Block.setAxis_tLast (a : Axis) (v : AxisVal) : (b.setAxis a v).tLast = b.tLast := rfl
@[simp] theorem Block.setAxis_syncTrusted (a : Axis) (v : AxisVal) : (b.setAxis a v).syncTrusted = b.syncTrusted := rfl
@[simp] theorem Block.setAxis_frameDone (a : Axis) (v : AxisVal) : (b.setAxis a v).frameDone = b.frameDone := rfl
@[simp] theorem Block.setAxis_cmin (a : Axis) (v : AxisVal) : (b.setAxis a v).cmin = b.cmin := rfl
@[simp] theorem Block.setAxis_cmax (a : Axis) (v : AxisVal) : (b.setAxis a v).cmax = b.cmax := rfl
@[simp] theorem Block.setAxis_calState (a : Axis) (v : AxisVal) : (b.setAxis a v).calState = b.calState := rfl
@[simp] theorem Block.setAxis_calStart (a : Axis) (v : AxisVal) : (b.setAxis a v).calStart = b.calStart := rfl
@[simp] theorem Block.setAxis_lastRaw (a : Axis) (v : AxisVal) : (b.setAxis a v).lastRaw = b.lastRaw := rfl
@[simp] theorem Block.setAxis_axis (a : Axis) (v : AxisVal) : (b.setAxis a v).axis = b.axis.set a v := rfl
@[simp] theorem Block.setAxis_button (a : Axis) (v : AxisVal) : (b.setAxis a v).button = b.button := rfl

/-! `setButton` writes `button` alone. -/

@[simp] theorem Block.setButton_frame (j : Button) (v : Bool) : (b.setButton j v).frame = b.frame := rfl
@[simp] theorem Block.setButton_idx (j : Button) (v : Bool) : (b.setButton j v).idx = b.idx := rfl
@[simp] theorem Block.setButton_tLast (j : Button) (v : Bool) : (b.setButton j v).tLast = b.tLast := rfl
@[simp] theorem Block.setButton_syncTrusted (j : Button) (v : Bool) : (b.setButton j v).syncTrusted = b.syncTrusted := rfl
@[simp] theorem Block.setButton_frameDone (j : Button) (v : Bool) : (b.setButton j v).frameDone = b.frameDone := rfl
@[simp] theorem Block.setButton_cmin (j : Button) (v : Bool) : (b.setButton j v).cmin = b.cmin := rfl
@[simp] theorem Block.setButton_cmax (j : Button) (v : Bool) : (b.setButton j v).cmax = b.cmax := rfl
@[simp] theorem Block.setButton_calState (j : Button) (v : Bool) : (b.setButton j v).calState = b.calState := rfl
@[simp] theorem Block.setButton_calStart (j : Button) (v : Bool) : (b.setButton j v).calStart = b.calStart := rfl
@[simp] theorem Block.setButton_lastRaw (j : Button) (v : Bool) : (b.setButton j v).lastRaw = b.lastRaw := rfl
@[simp] theorem Block.setButton_axis (j : Button) (v : Bool) : (b.setButton j v).axis = b.axis := rfl
@[simp] theorem Block.setButton_button (j : Button) (v : Bool) : (b.setButton j v).button = b.button.set j v := rfl

/-! A register array read after a write. -/

@[simp] theorem Block.setSlot_slot (i : Slot) (v : Word) (i' : Slot) :
    (b.setSlot i v).slot i' = if i = i' then v else b.slot i' := by
  simp [Block.setSlot, Block.slot, Vector.getElem_set, Fin.ext_iff]
@[simp] theorem Block.setIdx_slot (k : Slot) (r : Slot) : (b.setIdx k).slot r = b.slot r := rfl
@[simp] theorem Block.setTLast_slot (ts : Word) (r : Slot) : (b.setTLast ts).slot r = b.slot r := rfl
@[simp] theorem Block.setSyncTrusted_slot (v : Bool) (r : Slot) : (b.setSyncTrusted v).slot r = b.slot r := rfl
@[simp] theorem Block.setFrameDone_slot (v : Bool) (r : Slot) : (b.setFrameDone v).slot r = b.slot r := rfl
@[simp] theorem Block.setMin_slot (c : Channel) (v : Word) (r : Slot) : (b.setMin c v).slot r = b.slot r := rfl
@[simp] theorem Block.setMax_slot (c : Channel) (v : Word) (r : Slot) : (b.setMax c v).slot r = b.slot r := rfl
@[simp] theorem Block.setCalState_slot (v : CalState) (r : Slot) : (b.setCalState v).slot r = b.slot r := rfl
@[simp] theorem Block.setRaw_slot (a : Axis) (v : Word) (r : Slot) : (b.setRaw a v).slot r = b.slot r := rfl
@[simp] theorem Block.setAxis_slot (a : Axis) (v : AxisVal) (r : Slot) : (b.setAxis a v).slot r = b.slot r := rfl
@[simp] theorem Block.setButton_slot (j : Button) (v : Bool) (r : Slot) : (b.setButton j v).slot r = b.slot r := rfl

@[simp] theorem Block.setSlot_minOf (i : Slot) (v : Word) (r : Channel) : (b.setSlot i v).minOf r = b.minOf r := rfl
@[simp] theorem Block.setIdx_minOf (k : Slot) (r : Channel) : (b.setIdx k).minOf r = b.minOf r := rfl
@[simp] theorem Block.setTLast_minOf (ts : Word) (r : Channel) : (b.setTLast ts).minOf r = b.minOf r := rfl
@[simp] theorem Block.setSyncTrusted_minOf (v : Bool) (r : Channel) : (b.setSyncTrusted v).minOf r = b.minOf r := rfl
@[simp] theorem Block.setFrameDone_minOf (v : Bool) (r : Channel) : (b.setFrameDone v).minOf r = b.minOf r := rfl
@[simp] theorem Block.setMin_minOf (c : Channel) (v : Word) (c' : Channel) :
    (b.setMin c v).minOf c' = if c = c' then v else b.minOf c' := by
  simp [Block.setMin, Block.minOf, Vector.getElem_set, Fin.ext_iff]
@[simp] theorem Block.setMax_minOf (c : Channel) (v : Word) (r : Channel) : (b.setMax c v).minOf r = b.minOf r := rfl
@[simp] theorem Block.setCalState_minOf (v : CalState) (r : Channel) : (b.setCalState v).minOf r = b.minOf r := rfl
@[simp] theorem Block.setRaw_minOf (a : Axis) (v : Word) (r : Channel) : (b.setRaw a v).minOf r = b.minOf r := rfl
@[simp] theorem Block.setAxis_minOf (a : Axis) (v : AxisVal) (r : Channel) : (b.setAxis a v).minOf r = b.minOf r := rfl
@[simp] theorem Block.setButton_minOf (j : Button) (v : Bool) (r : Channel) : (b.setButton j v).minOf r = b.minOf r := rfl

@[simp] theorem Block.setSlot_maxOf (i : Slot) (v : Word) (r : Channel) : (b.setSlot i v).maxOf r = b.maxOf r := rfl
@[simp] theorem Block.setIdx_maxOf (k : Slot) (r : Channel) : (b.setIdx k).maxOf r = b.maxOf r := rfl
@[simp] theorem Block.setTLast_maxOf (ts : Word) (r : Channel) : (b.setTLast ts).maxOf r = b.maxOf r := rfl
@[simp] theorem Block.setSyncTrusted_maxOf (v : Bool) (r : Channel) : (b.setSyncTrusted v).maxOf r = b.maxOf r := rfl
@[simp] theorem Block.setFrameDone_maxOf (v : Bool) (r : Channel) : (b.setFrameDone v).maxOf r = b.maxOf r := rfl
@[simp] theorem Block.setMin_maxOf (c : Channel) (v : Word) (r : Channel) : (b.setMin c v).maxOf r = b.maxOf r := rfl
@[simp] theorem Block.setMax_maxOf (c : Channel) (v : Word) (c' : Channel) :
    (b.setMax c v).maxOf c' = if c = c' then v else b.maxOf c' := by
  simp [Block.setMax, Block.maxOf, Vector.getElem_set, Fin.ext_iff]
@[simp] theorem Block.setCalState_maxOf (v : CalState) (r : Channel) : (b.setCalState v).maxOf r = b.maxOf r := rfl
@[simp] theorem Block.setRaw_maxOf (a : Axis) (v : Word) (r : Channel) : (b.setRaw a v).maxOf r = b.maxOf r := rfl
@[simp] theorem Block.setAxis_maxOf (a : Axis) (v : AxisVal) (r : Channel) : (b.setAxis a v).maxOf r = b.maxOf r := rfl
@[simp] theorem Block.setButton_maxOf (j : Button) (v : Bool) (r : Channel) : (b.setButton j v).maxOf r = b.maxOf r := rfl

@[simp] theorem Block.setSlot_rawOf (i : Slot) (v : Word) (r : Axis) : (b.setSlot i v).rawOf r = b.rawOf r := rfl
@[simp] theorem Block.setIdx_rawOf (k : Slot) (r : Axis) : (b.setIdx k).rawOf r = b.rawOf r := rfl
@[simp] theorem Block.setTLast_rawOf (ts : Word) (r : Axis) : (b.setTLast ts).rawOf r = b.rawOf r := rfl
@[simp] theorem Block.setSyncTrusted_rawOf (v : Bool) (r : Axis) : (b.setSyncTrusted v).rawOf r = b.rawOf r := rfl
@[simp] theorem Block.setFrameDone_rawOf (v : Bool) (r : Axis) : (b.setFrameDone v).rawOf r = b.rawOf r := rfl
@[simp] theorem Block.setMin_rawOf (c : Channel) (v : Word) (r : Axis) : (b.setMin c v).rawOf r = b.rawOf r := rfl
@[simp] theorem Block.setMax_rawOf (c : Channel) (v : Word) (r : Axis) : (b.setMax c v).rawOf r = b.rawOf r := rfl
@[simp] theorem Block.setCalState_rawOf (v : CalState) (r : Axis) : (b.setCalState v).rawOf r = b.rawOf r := rfl
@[simp] theorem Block.setRaw_rawOf (a : Axis) (v : Word) (a' : Axis) :
    (b.setRaw a v).rawOf a' = if a = a' then v else b.rawOf a' := by
  simp [Block.setRaw, Block.rawOf, Vector.getElem_set, Fin.ext_iff]
@[simp] theorem Block.setAxis_rawOf (a : Axis) (v : AxisVal) (r : Axis) : (b.setAxis a v).rawOf r = b.rawOf r := rfl
@[simp] theorem Block.setButton_rawOf (j : Button) (v : Bool) (r : Axis) : (b.setButton j v).rawOf r = b.rawOf r := rfl

@[simp] theorem Block.setSlot_axisOf (i : Slot) (v : Word) (r : Axis) : (b.setSlot i v).axisOf r = b.axisOf r := rfl
@[simp] theorem Block.setIdx_axisOf (k : Slot) (r : Axis) : (b.setIdx k).axisOf r = b.axisOf r := rfl
@[simp] theorem Block.setTLast_axisOf (ts : Word) (r : Axis) : (b.setTLast ts).axisOf r = b.axisOf r := rfl
@[simp] theorem Block.setSyncTrusted_axisOf (v : Bool) (r : Axis) : (b.setSyncTrusted v).axisOf r = b.axisOf r := rfl
@[simp] theorem Block.setFrameDone_axisOf (v : Bool) (r : Axis) : (b.setFrameDone v).axisOf r = b.axisOf r := rfl
@[simp] theorem Block.setMin_axisOf (c : Channel) (v : Word) (r : Axis) : (b.setMin c v).axisOf r = b.axisOf r := rfl
@[simp] theorem Block.setMax_axisOf (c : Channel) (v : Word) (r : Axis) : (b.setMax c v).axisOf r = b.axisOf r := rfl
@[simp] theorem Block.setCalState_axisOf (v : CalState) (r : Axis) : (b.setCalState v).axisOf r = b.axisOf r := rfl
@[simp] theorem Block.setRaw_axisOf (a : Axis) (v : Word) (r : Axis) : (b.setRaw a v).axisOf r = b.axisOf r := rfl
@[simp] theorem Block.setAxis_axisOf (a : Axis) (v : AxisVal) (a' : Axis) :
    (b.setAxis a v).axisOf a' = if a = a' then v else b.axisOf a' := by
  simp [Block.setAxis, Block.axisOf, Vector.getElem_set, Fin.ext_iff]
@[simp] theorem Block.setButton_axisOf (j : Button) (v : Bool) (r : Axis) : (b.setButton j v).axisOf r = b.axisOf r := rfl

@[simp] theorem Block.setSlot_buttonOf (i : Slot) (v : Word) (r : Button) : (b.setSlot i v).buttonOf r = b.buttonOf r := rfl
@[simp] theorem Block.setIdx_buttonOf (k : Slot) (r : Button) : (b.setIdx k).buttonOf r = b.buttonOf r := rfl
@[simp] theorem Block.setTLast_buttonOf (ts : Word) (r : Button) : (b.setTLast ts).buttonOf r = b.buttonOf r := rfl
@[simp] theorem Block.setSyncTrusted_buttonOf (v : Bool) (r : Button) : (b.setSyncTrusted v).buttonOf r = b.buttonOf r := rfl
@[simp] theorem Block.setFrameDone_buttonOf (v : Bool) (r : Button) : (b.setFrameDone v).buttonOf r = b.buttonOf r := rfl
@[simp] theorem Block.setMin_buttonOf (c : Channel) (v : Word) (r : Button) : (b.setMin c v).buttonOf r = b.buttonOf r := rfl
@[simp] theorem Block.setMax_buttonOf (c : Channel) (v : Word) (r : Button) : (b.setMax c v).buttonOf r = b.buttonOf r := rfl
@[simp] theorem Block.setCalState_buttonOf (v : CalState) (r : Button) : (b.setCalState v).buttonOf r = b.buttonOf r := rfl
@[simp] theorem Block.setRaw_buttonOf (a : Axis) (v : Word) (r : Button) : (b.setRaw a v).buttonOf r = b.buttonOf r := rfl
@[simp] theorem Block.setAxis_buttonOf (a : Axis) (v : AxisVal) (r : Button) : (b.setAxis a v).buttonOf r = b.buttonOf r := rfl
@[simp] theorem Block.setButton_buttonOf (j : Button) (v : Bool) (j' : Button) :
    (b.setButton j v).buttonOf j' = if j = j' then v else b.buttonOf j' := by
  simp [Block.setButton, Block.buttonOf, Vector.getElem_set, Fin.ext_iff]

/-! Two register arrays are equal when they read equal. -/

theorem Block.frame_eq_of_slot (b b' : Block) (h : ∀ r : Slot, b'.slot r = b.slot r) : b'.frame = b.frame :=
  Vector.ext fun k hk => h ⟨k, hk⟩

theorem Block.slot_congr (b b' : Block) (h : b'.frame = b.frame) (r : Slot) : b'.slot r = b.slot r := by
  simp [Block.slot, h]

theorem Block.cmin_eq_of_minOf (b b' : Block) (h : ∀ r : Channel, b'.minOf r = b.minOf r) : b'.cmin = b.cmin :=
  Vector.ext fun k hk => h ⟨k, hk⟩

theorem Block.minOf_congr (b b' : Block) (h : b'.cmin = b.cmin) (r : Channel) : b'.minOf r = b.minOf r := by
  simp [Block.minOf, h]

theorem Block.cmax_eq_of_maxOf (b b' : Block) (h : ∀ r : Channel, b'.maxOf r = b.maxOf r) : b'.cmax = b.cmax :=
  Vector.ext fun k hk => h ⟨k, hk⟩

theorem Block.maxOf_congr (b b' : Block) (h : b'.cmax = b.cmax) (r : Channel) : b'.maxOf r = b.maxOf r := by
  simp [Block.maxOf, h]

theorem Block.lastRaw_eq_of_rawOf (b b' : Block) (h : ∀ r : Axis, b'.rawOf r = b.rawOf r) : b'.lastRaw = b.lastRaw :=
  Vector.ext fun k hk => h ⟨k, hk⟩

theorem Block.rawOf_congr (b b' : Block) (h : b'.lastRaw = b.lastRaw) (r : Axis) : b'.rawOf r = b.rawOf r := by
  simp [Block.rawOf, h]

theorem Block.axis_eq_of_axisOf (b b' : Block) (h : ∀ r : Axis, b'.axisOf r = b.axisOf r) : b'.axis = b.axis :=
  Vector.ext fun k hk => h ⟨k, hk⟩

theorem Block.axisOf_congr (b b' : Block) (h : b'.axis = b.axis) (r : Axis) : b'.axisOf r = b.axisOf r := by
  simp [Block.axisOf, h]

theorem Block.button_eq_of_buttonOf (b b' : Block) (h : ∀ r : Button, b'.buttonOf r = b.buttonOf r) : b'.button = b.button :=
  Vector.ext fun k hk => h ⟨k, hk⟩

theorem Block.buttonOf_congr (b b' : Block) (h : b'.button = b.button) (r : Button) : b'.buttonOf r = b.buttonOf r := by
  simp [Block.buttonOf, h]

/-! The state after a command, and the port updates. -/

@[simp] theorem State.respond_block (c : Block) (w : Word) (v : Bool) : (s.respond c w v).block = c := rfl
@[simp] theorem State.respond_inputs (c : Block) (w : Word) (v : Bool) : (s.respond c w v).inputs = s.inputs := rfl
@[simp] theorem State.respond_rspValid (c : Block) (w : Word) (v : Bool) : (s.respond c w v).rspValid = s.rspValid := rfl
@[simp] theorem State.respond_rsp (c : Block) (w : Word) (v : Bool) : (s.respond c w v).rsp = w := rfl
@[simp] theorem State.respond_commit (c : Block) (w : Word) (v : Bool) : (s.respond c w v).commit = v := rfl

@[simp] theorem State.answer_block (w : Word) : (s.answer w).block = s.block := rfl
@[simp] theorem State.answer_inputs (w : Word) : (s.answer w).inputs = s.inputs := rfl
@[simp] theorem State.answer_rspValid (w : Word) : (s.answer w).rspValid = s.rspValid := rfl
@[simp] theorem State.answer_rsp (w : Word) : (s.answer w).rsp = w := rfl
@[simp] theorem State.answer_commit (w : Word) : (s.answer w).commit = false := rfl

@[simp] theorem State.accept_block (rest : List PortInput) (v : Bool) : (s.accept rest v).block = s.block := rfl
@[simp] theorem State.accept_inputs (rest : List PortInput) (v : Bool) : (s.accept rest v).inputs = rest := rfl
@[simp] theorem State.accept_rspValid (rest : List PortInput) (v : Bool) : (s.accept rest v).rspValid = v := rfl
@[simp] theorem State.accept_rsp (rest : List PortInput) (v : Bool) : (s.accept rest v).rsp = s.rsp := rfl
@[simp] theorem State.accept_commit (rest : List PortInput) (v : Bool) : (s.accept rest v).commit = s.commit := rfl

@[simp] theorem State.idleClock_block (rest : List PortInput) : (s.idleClock rest).block = s.block := rfl
@[simp] theorem State.idleClock_inputs (rest : List PortInput) : (s.idleClock rest).inputs = rest := rfl
@[simp] theorem State.idleClock_rspValid (rest : List PortInput) : (s.idleClock rest).rspValid = false := rfl
@[simp] theorem State.idleClock_rsp (rest : List PortInput) : (s.idleClock rest).rsp = s.rsp := rfl
@[simp] theorem State.idleClock_commit (rest : List PortInput) : (s.idleClock rest).commit = false := rfl

@[simp] theorem State.resetAt_block (t0 : Word) (rest : List PortInput) : (State.resetAt t0 rest).block = Block.reset t0 := rfl
@[simp] theorem State.resetAt_inputs (t0 : Word) (rest : List PortInput) : (State.resetAt t0 rest).inputs = rest := rfl
@[simp] theorem State.resetAt_rspValid (t0 : Word) (rest : List PortInput) : (State.resetAt t0 rest).rspValid = false := rfl
@[simp] theorem State.resetAt_rsp (t0 : Word) (rest : List PortInput) : (State.resetAt t0 rest).rsp = 0 := rfl
@[simp] theorem State.resetAt_commit (t0 : Word) (rest : List PortInput) : (State.resetAt t0 rest).commit = false := rfl

/-! The registers after reset (10_state.md R28). -/

@[simp] theorem Block.reset_slot (t0 : Word) (i : Slot) : (Block.reset t0).slot i = 0 := by
  simp [Block.reset, Block.slot]

@[simp] theorem Block.reset_minOf (t0 : Word) (c : Channel) : (Block.reset t0).minOf c = 1500 := by
  simp [Block.reset, Block.minOf]

@[simp] theorem Block.reset_maxOf (t0 : Word) (c : Channel) : (Block.reset t0).maxOf c = 1500 := by
  simp [Block.reset, Block.maxOf]

@[simp] theorem Block.reset_rawOf (t0 : Word) (a : Axis) : (Block.reset t0).rawOf a = 0 := by
  simp [Block.reset, Block.rawOf]

@[simp] theorem Block.reset_axisOf (t0 : Word) (a : Axis) : (Block.reset t0).axisOf a = 128 := by
  simp [Block.reset, Block.axisOf]

@[simp] theorem Block.reset_buttonOf (t0 : Word) (j : Button) : (Block.reset t0).buttonOf j = false := by
  simp [Block.reset, Block.buttonOf]

@[simp] theorem Block.reset_idx (t0 : Word) : (Block.reset t0).idx = 0 := rfl
@[simp] theorem Block.reset_tLast (t0 : Word) : (Block.reset t0).tLast = t0 := rfl
@[simp] theorem Block.reset_syncTrusted (t0 : Word) : (Block.reset t0).syncTrusted = false := rfl
@[simp] theorem Block.reset_frameDone (t0 : Word) : (Block.reset t0).frameDone = false := rfl
@[simp] theorem Block.reset_calState (t0 : Word) : (Block.reset t0).calState = .calibrating := rfl
@[simp] theorem Block.reset_calStart (t0 : Word) : (Block.reset t0).calStart = t0 := rfl

end Sys2Proof.Machine
end

