-- ==== Sys2Proof/Laws/Calibration.lean ====
section
/-! SUPPORT. Everything `calRecord` and `calExpire` can do to the block (43_calibration.md R71, R75). -/

namespace Sys2Proof.Machine

variable (b : Block)

/-- The fields that recording never writes. -/
structure Block.SameButBounds (b b' : Block) : Prop where
  frame : b'.frame = b.frame
  idx : b'.idx = b.idx
  tLast : b'.tLast = b.tLast
  syncTrusted : b'.syncTrusted = b.syncTrusted
  frameDone : b'.frameDone = b.frameDone
  calState : b'.calState = b.calState
  calStart : b'.calStart = b.calStart
  lastRaw : b'.lastRaw = b.lastRaw
  axis : b'.axis = b.axis
  button : b'.button = b.button

theorem Block.recordChannel_frame_rule (c : Channel) : b.SameButBounds (b.recordChannel c) := by
  unfold Block.recordChannel Block.recordMax Block.recordMin
  split <;> split <;> constructor <;> rfl

theorem Block.recordChannels_frame_rule (cs : List Channel) :
    b.SameButBounds (b.recordChannels cs) := by
  induction cs generalizing b with
  | nil => constructor <;> rfl
  | cons c cs ih =>
    have h := b.recordChannel_frame_rule c
    have h' := ih (b.recordChannel c)
    exact ⟨h'.1.trans h.1, h'.2.trans h.2, h'.3.trans h.3, h'.4.trans h.4, h'.5.trans h.5,
      h'.6.trans h.6, h'.7.trans h.7, h'.8.trans h.8, h'.9.trans h.9, h'.10.trans h.10⟩

theorem Block.calRecord_frame_rule : b.SameButBounds b.calRecord :=
  b.recordChannels_frame_rule allChannels

@[simp] theorem Block.recordMin_slot (c : Channel) (i : Slot) : (b.recordMin c).slot i = b.slot i := by
  unfold Block.recordMin
  split <;> rfl

@[simp] theorem Block.recordMin_maxOf (c d : Channel) : (b.recordMin c).maxOf d = b.maxOf d := by
  unfold Block.recordMin
  split <;> rfl

@[simp] theorem Block.recordMin_minOf (c d : Channel) :
    (b.recordMin c).minOf d =
      if c = d ∧ lowersMin (b.slot (channelSlot d)) (b.minOf d) = true then b.slot (channelSlot d)
      else b.minOf d := by
  unfold Block.recordMin
  by_cases h : c = d
  · subst h
    split <;> simp_all
  · split <;> simp [h]

@[simp] theorem Block.recordMax_minOf (c d : Channel) : (b.recordMax c).minOf d = b.minOf d := by
  unfold Block.recordMax
  split <;> rfl

@[simp] theorem Block.recordMax_slot (c : Channel) (i : Slot) : (b.recordMax c).slot i = b.slot i := by
  unfold Block.recordMax
  split <;> rfl

@[simp] theorem Block.recordMax_maxOf (c d : Channel) :
    (b.recordMax c).maxOf d =
      if c = d ∧ raisesMax (b.slot (channelSlot d)) (b.maxOf d) = true then b.slot (channelSlot d)
      else b.maxOf d := by
  unfold Block.recordMax
  by_cases h : c = d
  · subst h
    split <;> simp_all
  · split <;> simp [h]

@[simp] theorem Block.recordChannel_slot (c : Channel) (i : Slot) :
    (b.recordChannel c).slot i = b.slot i := by
  simp [Block.recordChannel]

/-- One turn of the loop moves the minimum of its own channel only. -/
@[simp] theorem Block.recordChannel_minOf (c d : Channel) :
    (b.recordChannel c).minOf d =
      if c = d ∧ lowersMin (b.slot (channelSlot d)) (b.minOf d) = true then b.slot (channelSlot d)
      else b.minOf d := by
  simp [Block.recordChannel]

/-- One turn of the loop moves the maximum of its own channel only. -/
@[simp] theorem Block.recordChannel_maxOf (c d : Channel) :
    (b.recordChannel c).maxOf d =
      if c = d ∧ raisesMax (b.slot (channelSlot d)) (b.maxOf d) = true then b.slot (channelSlot d)
      else b.maxOf d := by
  simp [Block.recordChannel]

@[simp] theorem lowersMin_self (v : Word) : lowersMin v v = false := by
  simp [lowersMin]

@[simp] theorem raisesMax_self (v : Word) : raisesMax v v = false := by
  simp [raisesMax]

/-- The loop over any list of channels moves the minimum of each listed channel once. -/
theorem Block.recordChannels_minOf (cs : List Channel) (d : Channel) :
    (b.recordChannels cs).minOf d =
      if d ∈ cs ∧ lowersMin (b.slot (channelSlot d)) (b.minOf d) = true then b.slot (channelSlot d)
      else b.minOf d := by
  induction cs generalizing b with
  | nil => simp [Block.recordChannels]
  | cons c cs ih =>
    have hih := ih (b.recordChannel c)
    simp only [Block.recordChannel_minOf, Block.recordChannel_slot] at hih
    have hcons : b.recordChannels (c :: cs) = (b.recordChannel c).recordChannels cs := rfl
    rw [hcons, hih]
    by_cases hc : c = d
    · subst hc
      cases hl : lowersMin (b.slot (channelSlot c)) (b.minOf c) <;> simp [hl]
    · simp [hc, Ne.symm hc]

/-- The loop over any list of channels moves the maximum of each listed channel once. -/
theorem Block.recordChannels_maxOf (cs : List Channel) (d : Channel) :
    (b.recordChannels cs).maxOf d =
      if d ∈ cs ∧ raisesMax (b.slot (channelSlot d)) (b.maxOf d) = true then b.slot (channelSlot d)
      else b.maxOf d := by
  induction cs generalizing b with
  | nil => simp [Block.recordChannels]
  | cons c cs ih =>
    have hih := ih (b.recordChannel c)
    simp only [Block.recordChannel_maxOf, Block.recordChannel_slot] at hih
    have hcons : b.recordChannels (c :: cs) = (b.recordChannel c).recordChannels cs := rfl
    rw [hcons, hih]
    by_cases hc : c = d
    · subst hc
      cases hl : raisesMax (b.slot (channelSlot c)) (b.maxOf c) <;> simp [hl]
    · simp [hc, Ne.symm hc]

theorem mem_allChannels (c : Channel) : c ∈ allChannels := by
  revert c
  decide

/-- `calRecord` moves each minimum by the first branch of R71. -/
@[simp] theorem Block.calRecord_minOf (c : Channel) :
    b.calRecord.minOf c =
      if lowersMin (b.slot (channelSlot c)) (b.minOf c) = true then b.slot (channelSlot c)
      else b.minOf c := by
  simp [Block.calRecord, Block.recordChannels_minOf, mem_allChannels]

/-- `calRecord` moves each maximum by the second branch of R71. -/
@[simp] theorem Block.calRecord_maxOf (c : Channel) :
    b.calRecord.maxOf c =
      if raisesMax (b.slot (channelSlot c)) (b.maxOf c) = true then b.slot (channelSlot c)
      else b.maxOf c := by
  simp [Block.calRecord, Block.recordChannels_maxOf, mem_allChannels]

theorem lowersMin_iff (sample lo : Word) :
    lowersMin sample lo = true ↔ sample.toNat < lo.toNat ∧ lo.toNat - sample.toNat ≤ 200 := by
  simp [lowersMin]

theorem raisesMax_iff (sample hi : Word) :
    raisesMax sample hi = true ↔ hi.toNat < sample.toNat ∧ sample.toNat - hi.toNat ≤ 200 := by
  simp [raisesMax]

/-- `calExpire` writes CAL_STATE and nothing else (R75). -/
theorem Block.calExpire_cases (now : Word) :
    (b.expires now = true ∧ b.calExpire now = b.setCalState .calibrated) ∨
      (b.expires now = false ∧ b.calExpire now = b) := by
  unfold Block.calExpire
  cases h : b.expires now <;> simp

theorem Block.expires_iff (now : Word) :
    b.expires now = true ↔
      b.calState = .calibrating ∧ 30000000 ≤ (sub32 now b.calStart).toNat := by
  simp [Block.expires]

end Sys2Proof.Machine
end

