-- ==== Sys2Proof/Laws/Decode.lean ====
section
/-! SUPPORT. The fields of a word put together from an opcode and an operand. -/

namespace Sys2Proof

@[simp] theorem opField_append (op : BitVec 4) (arg : Word) : opField (op ++ arg) = op := by
  ext k hk
  simp only [opField, BitVec.getElem_extractLsb', BitVec.getLsbD_append]
  simp [show ¬(32 + k < 32) by omega, BitVec.getLsbD_eq_getElem hk]

@[simp] theorem argField_append (op : BitVec 4) (arg : Word) : argField (op ++ arg) = arg := by
  ext k hk
  simp only [argField, BitVec.getElem_extractLsb', BitVec.getLsbD_append]
  simp [hk]

/-- A word is its two fields (30_encoding.md R40). -/
theorem opField_argField (w : CmdWord) : opField w ++ argField w = w := by
  ext k hk
  simp only [opField, argField, BitVec.getElem_append, BitVec.getElem_extractLsb']
  split
  · simp [BitVec.getLsbD_eq_getElem hk]
  · rw [show 32 + (k - 32) = k by omega]
    exact BitVec.getLsbD_eq_getElem hk

end Sys2Proof
end

