-- ==== Sys2Proof/Laws/EdgeCapture.lean ====
section
/-! SUPPORT. Everything EDGE can do to the block, field by field (40_edge_capture.md R55 to R60). -/

namespace Sys2Proof.Machine

variable (b : Block) (ts : Word)

theorem isPause_iff (p : Word) : isPause p = true ↔ 5000 < p.toNat ∧ p.toNat < 20000 := by
  simp [isPause]

/-- The block after steps 1 to 3 (R56 to R58). -/
def Block.edgeStored (b : Block) (ts : Word) : Block :=
  let stored := (b.measure ts).advanceAndStore (b.pulse ts)
  stored.frameComplete stored.idx

theorem Block.edge_eq : b.edge ts = (b.edgeStored ts).resync (b.pulse ts) := rfl

@[simp] theorem Block.edgeStored_eq :
    b.edgeStored ts =
      (((b.setTLast ts).setIdx b.nextIdx).setSlot b.nextIdx (b.pulse ts)).setFrameDone
        (b.frameDone || b.edgeFc) := by
  have h : (b.measure ts).nextIdx = b.nextIdx := rfl
  simp only [Block.edgeStored, Block.frameComplete, Block.advanceAndStore, h, Block.edgeFc,
    Block.setSlot_idx, Block.setIdx_idx]
  cases isLastSlot b.nextIdx <;> simp [Block.measure, Block.setFrameDone, Block.setSlot, Block.setIdx,
    Block.setTLast]

/-- Steps 1 to 3 leave SYNC_TRUSTED alone, so step 4 decides as at the start of the EDGE. -/
theorem Block.edge_cases :
    (b.edgeRs ts = true ∧
        b.edge ts =
          ((((b.edgeStored ts).setSlot 0 (b.pulse ts)).setIdx 0).setSyncTrusted true).setFrameDone
            false) ∨
      (b.edgeRs ts = false ∧ b.edge ts = b.edgeStored ts) := by
  have h : (b.edgeStored ts).resyncs (b.pulse ts) = b.edgeRs ts := by
    simp [Block.resyncs, Block.edgeRs]
  rw [Block.edge_eq, Block.resync, h]
  cases b.edgeRs ts <;> simp

@[simp] theorem Block.edge_slot (i : Slot) :
    (b.edge ts).slot i =
      if b.edgeRs ts = true ∧ i = 0 then b.pulse ts
      else if i = b.nextIdx then b.pulse ts
      else b.slot i := by
  obtain ⟨hr, h⟩ | ⟨hr, h⟩ := b.edge_cases ts <;>
    simp [h, hr, eq_comm (b := i)]

@[simp] theorem Block.edge_idx :
    (b.edge ts).idx = if b.edgeRs ts = true then 0 else b.nextIdx := by
  obtain ⟨hr, h⟩ | ⟨hr, h⟩ := b.edge_cases ts <;> simp [h, hr]

@[simp] theorem Block.edge_tLast : (b.edge ts).tLast = ts := by
  obtain ⟨-, h⟩ | ⟨-, h⟩ := b.edge_cases ts <;> simp [h]

@[simp] theorem Block.edge_syncTrusted :
    (b.edge ts).syncTrusted = (b.syncTrusted || b.edgeRs ts) := by
  obtain ⟨hr, h⟩ | ⟨hr, h⟩ := b.edge_cases ts <;> simp [h, hr]

@[simp] theorem Block.edge_frameDone :
    (b.edge ts).frameDone = (!b.edgeRs ts && (b.frameDone || b.edgeFc)) := by
  obtain ⟨hr, h⟩ | ⟨hr, h⟩ := b.edge_cases ts <;> simp [h, hr]

theorem Block.edge_unwritten :
    (b.edge ts).cmin = b.cmin ∧ (b.edge ts).cmax = b.cmax ∧ (b.edge ts).calState = b.calState ∧
      (b.edge ts).calStart = b.calStart ∧ (b.edge ts).lastRaw = b.lastRaw ∧
      (b.edge ts).axis = b.axis ∧ (b.edge ts).button = b.button := by
  obtain ⟨-, h⟩ | ⟨-, h⟩ := b.edge_cases ts <;> simp [h]

end Sys2Proof.Machine
end

