-- ==== Sys2Proof/Laws/Operands.lean ====
section
/-! SUPPORT. What the index spaces of 20_memory.md R30 select. -/

namespace Sys2Proof.Machine

open Sys2Proof.Config

theorem slotIndex_of_lt (idx : Word) (h : idx.toNat < 7) : slotIndex idx = some ⟨idx.toNat, h⟩ := by
  simp [slotIndex, h]

theorem slotIndex_of_ge (idx : Word) (h : 7 ≤ idx.toNat) : slotIndex idx = none := by
  simp only [slotIndex, nSlots, dite_eq_right_iff]
  intro h'
  omega

theorem channelIndex_of_mem (idx : Word) (h : 1 ≤ idx.toNat ∧ idx.toNat ≤ 6) :
    channelIndex idx = some ⟨idx.toNat - 1, by simp only [nChan]; omega⟩ := by
  simp [channelIndex, h]

theorem channelIndex_of_not_mem (idx : Word) (h : ¬(1 ≤ idx.toNat ∧ idx.toNat ≤ 6)) :
    channelIndex idx = none := by
  simp only [channelIndex, nChan, dif_neg h]

theorem axisIndex_of_mem (idx : Word) (h : 1 ≤ idx.toNat ∧ idx.toNat ≤ 4) :
    axisIndex idx = some ⟨idx.toNat - 1, by simp only [nAxis]; omega⟩ := by
  simp [axisIndex, h]

theorem axisIndex_of_not_mem (idx : Word) (h : ¬(1 ≤ idx.toNat ∧ idx.toNat ≤ 4)) :
    axisIndex idx = none := by
  simp only [axisIndex, axisLo, axisHi, dif_neg h]

theorem buttonIndex_of_mem (idx : Word) (h : 5 ≤ idx.toNat ∧ idx.toNat ≤ 6) :
    buttonIndex idx = some ⟨idx.toNat - 5, by simp only [nButton]; omega⟩ := by
  simp [buttonIndex, h]

theorem buttonIndex_of_not_mem (idx : Word) (h : ¬(5 ≤ idx.toNat ∧ idx.toNat ≤ 6)) :
    buttonIndex idx = none := by
  simp only [buttonIndex, btnLo, btnHi, dif_neg h]

/-- The number of an axis names that axis. -/
@[simp] theorem axisIndex_axisNumber (a : Axis) : axisIndex (axisNumber a) = some a := by
  revert a
  decide

/-- The number of a button's channel names no axis. -/
@[simp] theorem axisIndex_buttonNumber (j : Button) : axisIndex (buttonNumber j) = none := by
  revert j
  decide

/-- The number of a button's channel names that button. -/
@[simp] theorem buttonIndex_buttonNumber (j : Button) : buttonIndex (buttonNumber j) = some j := by
  revert j
  decide

/-- The parameters AXIS_LO..BTN_HI and the sizes of the index spaces agree (00_scope.md R4). -/
theorem index_space_sizes :
    nAxis = axisHi + 1 - axisLo ∧ nButton = btnHi + 1 - btnLo ∧ nChan = nAxis + nButton ∧
      nSlots = nChan + 1 := by
  decide

end Sys2Proof.Machine
end

