-- ==== Sys2Proof/Laws/Mapper.lean ====
section
/-! SUPPORT. What the mapper returns (44_mapper.md R78 to R83). -/

namespace Sys2Proof.Machine

/-- The number of `mapAxis` is in 0..255, so that narrowing it to an axis value loses nothing (R79). -/
theorem mapAxisNat_le (p lo hi : Nat) : mapAxisNat p lo hi ≤ 255 := by
  unfold mapAxisNat
  simp only [Config.neutral, Config.axisFull]
  split
  · omega
  · split
    · omega
    · split
      · omega
      · rename_i h1 h2 h3
        refine Nat.le_of_lt_succ (Nat.div_lt_of_lt_mul ?_)
        generalize hx : p - lo = x
        generalize hw : hi - lo = w
        have hlt : x < w := by omega
        omega

theorem mapAxis_toNat (p lo hi : Word) :
    (mapAxis p lo hi).toNat = mapAxisNat p.toNat lo.toNat hi.toNat := by
  have h := mapAxisNat_le p.toNat lo.toNat hi.toNat
  simp only [mapAxis, BitVec.toNat_ofNat]
  exact Nat.mod_eq_of_lt (by omega)

/-- An axis number maps to the interpolation of that axis (R78). -/
@[simp] theorem Block.mapChannel_axisNumber (b : Block) (a : Axis) :
    b.mapChannel (axisNumber a) = b.mapAxisChannel a := by
  simp [Block.mapChannel]

/-- A button number maps to the threshold test of that button (R78). -/
@[simp] theorem Block.mapChannel_buttonNumber (b : Block) (j : Button) :
    b.mapChannel (buttonNumber j) = mapButton (b.slot (buttonSlot j)) := by
  simp [Block.mapChannel]

theorem mapButton_eq_zero_iff (p : Word) : mapButton p = 0 ↔ p.toNat ≤ 1500 := by
  unfold mapButton
  simp only [Config.btnThresh]
  split
  · simp only [show (1#8 : AxisVal) ≠ 0#8 by decide, BitVec.ofNat_eq_ofNat, false_iff]
    omega
  · simp only [true_iff]
    omega

/-- The mapper reads the registers of the frame and the ranges only (R78). -/
theorem Block.mapChannel_congr (b b' : Block) (hf : b'.frame = b.frame) (hl : b'.cmin = b.cmin)
    (hh : b'.cmax = b.cmax) (ch : Word) : b'.mapChannel ch = b.mapChannel ch := by
  simp [Block.mapChannel, Block.mapAxisChannel, Block.slot, Block.minOf, Block.maxOf, hf, hl, hh]

end Sys2Proof.Machine
end

