-- ==== Sys2Proof/Laws/OutputFilter.lean ====
section
/-! SUPPORT. Everything `forwardPass` can do to the block (45_output_filter.md R85 to R87). -/

namespace Sys2Proof.Machine

variable (b : Block)

/-- The fields that forwarding never writes. -/
structure Block.SameButOutputs (b b' : Block) : Prop where
  frame : b'.frame = b.frame
  idx : b'.idx = b.idx
  tLast : b'.tLast = b.tLast
  syncTrusted : b'.syncTrusted = b.syncTrusted
  frameDone : b'.frameDone = b.frameDone
  cmin : b'.cmin = b.cmin
  cmax : b'.cmax = b.cmax
  calState : b'.calState = b.calState
  calStart : b'.calStart = b.calStart

theorem Block.SameButOutputs.trans {b b' b'' : Block} (h : b.SameButOutputs b')
    (h' : b'.SameButOutputs b'') : b.SameButOutputs b'' :=
  ⟨h'.1.trans h.1, h'.2.trans h.2, h'.3.trans h.3, h'.4.trans h.4, h'.5.trans h.5, h'.6.trans h.6,
    h'.7.trans h.7, h'.8.trans h.8, h'.9.trans h.9⟩

theorem Block.filterAxis_frame_rule (a : Axis) : b.SameButOutputs (b.filterAxis a) := by
  unfold Block.filterAxis
  split <;> constructor <;> rfl

theorem Block.filterAxes_frame_rule (as : List Axis) : b.SameButOutputs (b.filterAxes as) := by
  induction as generalizing b with
  | nil => constructor <;> rfl
  | cons a as ih => exact (b.filterAxis_frame_rule a).trans (ih (b.filterAxis a))

theorem Block.forwardButtons_frame_rule : b.SameButOutputs b.forwardButtons := by
  constructor <;> rfl

theorem Block.forwardPass_frame_rule : b.SameButOutputs b.forwardPass :=
  (b.filterAxes_frame_rule allAxes).trans (b.filterAxes allAxes).forwardButtons_frame_rule

/-- The mapper answers the same after any part of a forward pass. -/
theorem Block.SameButOutputs.mapChannel {b b' : Block} (h : b.SameButOutputs b') (ch : Word) :
    b'.mapChannel ch = b.mapChannel ch :=
  b.mapChannel_congr b' h.frame h.cmin h.cmax ch

@[simp] theorem Block.filterAxis_slot (a : Axis) (i : Slot) : (b.filterAxis a).slot i = b.slot i :=
  Block.slot_congr _ _ (b.filterAxis_frame_rule a).frame i

@[simp] theorem Block.filterAxis_mapChannel (a : Axis) (ch : Word) :
    (b.filterAxis a).mapChannel ch = b.mapChannel ch :=
  (b.filterAxis_frame_rule a).mapChannel ch

/-- Filtering an axis writes LAST_RAW of that axis only, and only when it has moved (R85). -/
@[simp] theorem Block.filterAxis_rawOf (a d : Axis) :
    (b.filterAxis a).rawOf d =
      if a = d ∧ b.axisMoved d = true then b.slot (channelSlot (axisChannel d)) else b.rawOf d := by
  unfold Block.filterAxis
  by_cases h : a = d
  · subst h
    split <;> simp_all
  · split <;> simp [h]

/-- Filtering an axis writes AXIS of that axis only, and only when it has moved (R85). -/
@[simp] theorem Block.filterAxis_axisOf (a d : Axis) :
    (b.filterAxis a).axisOf d =
      if a = d ∧ b.axisMoved d = true then b.mapChannel (axisNumber d) else b.axisOf d := by
  unfold Block.filterAxis
  by_cases h : a = d
  · subst h
    split <;> simp_all
  · split <;> simp [h]

theorem Block.filterAxis_button (a : Axis) : (b.filterAxis a).button = b.button := by
  unfold Block.filterAxis
  split <;> rfl

/-- An axis that is equal to its snapshot has not moved. -/
theorem absdiff_self (v : Word) : absdiff v v = 0 := by
  simp [absdiff]

/-- The distance of two durations as a sum of truncated differences, one of which is 0. -/
theorem absdiff_eq (p q : Word) : absdiff p q = (p.toNat - q.toNat) + (q.toNat - p.toNat) := by
  unfold absdiff
  split <;> omega

/-- The filter's test (R85): strictly more than 20. -/
theorem Block.axisMoved_iff (a : Axis) :
    b.axisMoved a = true ↔ 20 < absdiff (b.slot (channelSlot (axisChannel a))) (b.rawOf a) :=
  decide_eq_true_iff

theorem Block.filterAxis_axisMoved (a d : Axis) :
    (b.filterAxis a).axisMoved d = if a = d then false else b.axisMoved d := by
  by_cases h : a = d
  · subst h
    cases hm : b.axisMoved a
    · rw [Block.axisMoved, Block.filterAxis_rawOf, Block.filterAxis_slot, hm]
      simpa [Block.axisMoved] using hm
    · rw [Block.axisMoved, Block.filterAxis_rawOf, Block.filterAxis_slot, hm]
      simp [absdiff_self]
  · simp [Block.axisMoved, h]

/-- The loop over any list of axes forwards each listed axis that has moved, once. -/
theorem Block.filterAxes_rawOf (as : List Axis) (d : Axis) :
    (b.filterAxes as).rawOf d =
      if d ∈ as ∧ b.axisMoved d = true then b.slot (channelSlot (axisChannel d)) else b.rawOf d := by
  induction as generalizing b with
  | nil => simp [Block.filterAxes]
  | cons a as ih =>
    have hcons : b.filterAxes (a :: as) = (b.filterAxis a).filterAxes as := rfl
    rw [hcons, ih, Block.filterAxis_axisMoved, Block.filterAxis_rawOf, Block.filterAxis_slot]
    by_cases ha : a = d
    · subst ha
      simp
    · simp [ha, Ne.symm ha]

theorem Block.filterAxes_axisOf (as : List Axis) (d : Axis) :
    (b.filterAxes as).axisOf d =
      if d ∈ as ∧ b.axisMoved d = true then b.mapChannel (axisNumber d) else b.axisOf d := by
  induction as generalizing b with
  | nil => simp [Block.filterAxes]
  | cons a as ih =>
    have hcons : b.filterAxes (a :: as) = (b.filterAxis a).filterAxes as := rfl
    rw [hcons, ih, Block.filterAxis_axisMoved, Block.filterAxis_axisOf, Block.filterAxis_mapChannel]
    by_cases ha : a = d
    · subst ha
      simp
    · simp [ha, Ne.symm ha]

theorem mem_allAxes (a : Axis) : a ∈ allAxes := by
  revert a
  decide

@[simp] theorem Block.forwardButtons_rawOf (a : Axis) : b.forwardButtons.rawOf a = b.rawOf a := by
  simp [Block.forwardButtons, Block.forwardButton]

@[simp] theorem Block.forwardButtons_axisOf (a : Axis) : b.forwardButtons.axisOf a = b.axisOf a := by
  simp [Block.forwardButtons, Block.forwardButton]

/-- `forwardPass` forwards each axis that has moved, and keeps the others (R85). -/
@[simp] theorem Block.forwardPass_rawOf (a : Axis) :
    b.forwardPass.rawOf a =
      if b.axisMoved a = true then b.slot (channelSlot (axisChannel a)) else b.rawOf a := by
  simp [Block.forwardPass, Block.filterAxes_rawOf, mem_allAxes]

@[simp] theorem Block.forwardPass_axisOf (a : Axis) :
    b.forwardPass.axisOf a = if b.axisMoved a = true then b.mapAxisChannel a else b.axisOf a := by
  simp [Block.forwardPass, Block.filterAxes_axisOf, mem_allAxes]

/-- `forwardPass` rewrites both buttons, inverted (R86). -/
@[simp] theorem Block.forwardPass_buttonOf (j : Button) :
    b.forwardPass.buttonOf j = decide ((b.slot (buttonSlot j)).toNat ≤ 1500) := by
  have hs : ∀ i, (b.filterAxes allAxes).slot i = b.slot i :=
    Block.slot_congr _ _ (b.filterAxes_frame_rule allAxes).frame
  have hm : ∀ ch, (b.filterAxes allAxes).mapChannel ch = b.mapChannel ch :=
    (b.filterAxes_frame_rule allAxes).mapChannel
  have hb : ∀ (c : Block) (k : Button) (v : Bool) (ch : Word),
      (c.setButton k v).mapChannel ch = c.mapChannel ch := fun _ _ _ _ => rfl
  simp only [Block.forwardPass, Block.forwardButtons, Block.forwardButton, Block.setButton_buttonOf, hb,
    hm, Block.mapChannel_buttonNumber, mapButton_eq_zero_iff]
  fin_cases j <;> simp

end Sys2Proof.Machine
end

