-- ==== Sys2Proof/Laws/PerInstr.lean ====
section
/-! SUPPORT. Per command: the fields of its encoding are its opcode and its operand (30_encoding.md R40,
R43). -/

namespace Sys2Proof.Laws.EncodedFields

def Statement (i : Instr) : Prop :=
  opField (encode i) = i.opcode ∧ argField (encode i) = i.arg

theorem of_append (i : Instr) : Statement i :=
  ⟨opField_append _ _, argField_append _ _⟩

theorem nop : Statement .nop := of_append _
theorem edge (ts : Word) : Statement (.edge ts) := of_append _
theorem poll (ts : Word) : Statement (.poll ts) := of_append _
theorem insync : Statement .insync := of_append _
theorem sigp (ts : Word) : Statement (.sigp ts) := of_append _
theorem mapch (idx : Word) : Statement (.mapch idx) := of_append _
theorem rdslot (idx : Word) : Statement (.rdslot idx) := of_append _
theorem rdmin (idx : Word) : Statement (.rdmin idx) := of_append _
theorem rdmax (idx : Word) : Statement (.rdmax idx) := of_append _
theorem rdaxis (idx : Word) : Statement (.rdaxis idx) := of_append _
theorem rdbtn : Statement .rdbtn := of_append _
theorem rdstat : Statement .rdstat := of_append _
theorem rdraw (idx : Word) : Statement (.rdraw idx) := of_append _
theorem rdts (idx : Word) : Statement (.rdts idx) := of_append _
theorem rsvdE : Statement .rsvdE := of_append _
theorem rsvdF : Statement .rsvdF := of_append _

end Sys2Proof.Laws.EncodedFields
end

