-- ==== Sys2Proof/Laws/Poll.lean ====
section
/-! SUPPORT. Everything POLL can do to the block (46_poll.md R90 to R93). -/

namespace Sys2Proof.Machine

variable (b : Block) (ts : Word)

theorem Block.frameInSync_iff : b.frameInSync = true ↔ 5000 ≤ (b.slot 0).toNat := by
  simp [Block.frameInSync]

theorem Block.signalPresent_iff (now : Word) :
    b.signalPresent now = true ↔ (sub32 now b.tLast).toNat ≤ 250000 := by
  simp [Block.signalPresent]

/-- The checks of a POLL write FRAME_DONE and SYNC_TRUSTED only (R91, R92). -/
theorem Block.pollChecks_eq :
    b.pollChecks ts =
      (b.setFrameDone false).setSyncTrusted
        (b.syncTrusted && (!b.signalPresent ts || b.frameInSync)) := by
  unfold Block.pollChecks Block.syncCheck
  have h : (b.setFrameDone false).frameInSync = b.frameInSync := rfl
  rw [h]
  cases b.signalPresent ts <;> cases b.frameInSync <;> simp [Block.setSyncTrusted, Block.setFrameDone]

/-- SAMPLED and FWD exclude each other (R95). -/
theorem Block.pollFwd_of_pollSampled (h : b.pollSampled ts = true) : b.pollFwd ts = false := by
  simp only [Block.pollSampled, Bool.and_eq_true, decide_eq_true_eq] at h
  simp [Block.pollFwd, h.1.2]

/-- The work of a POLL is one of three (R91 (3)). -/
theorem Block.pollWork_cases :
    (b.pollSampled ts = true ∧ b.pollFwd ts = false ∧ b.pollWork ts = (b.pollChecks ts).calRecord) ∨
      (b.pollSampled ts = false ∧ b.pollFwd ts = true ∧
        b.pollWork ts = (b.pollChecks ts).forwardPass) ∨
      (b.pollSampled ts = false ∧ b.pollFwd ts = false ∧ b.pollWork ts = b.pollChecks ts) := by
  unfold Block.pollWork
  cases hs : b.pollSampled ts
  · cases hf : b.pollFwd ts <;> simp
  · simp [b.pollFwd_of_pollSampled ts hs]

/-- The fields that no POLL writes (R90), and the two flags it may clear. -/
theorem Block.pollWork_unwritten :
    (b.pollWork ts).frame = b.frame ∧ (b.pollWork ts).idx = b.idx ∧
      (b.pollWork ts).tLast = b.tLast ∧ (b.pollWork ts).calStart = b.calStart ∧
      (b.pollWork ts).calState = b.calState ∧ (b.pollWork ts).frameDone = false ∧
      (b.pollWork ts).syncTrusted = (b.syncTrusted && (!b.signalPresent ts || b.frameInSync)) := by
  obtain ⟨-, -, h⟩ | ⟨-, -, h⟩ | ⟨-, -, h⟩ := b.pollWork_cases ts <;> rw [h]
  · have r := (b.pollChecks ts).calRecord_frame_rule
    rw [r.frame, r.idx, r.tLast, r.calStart, r.calState, r.frameDone, r.syncTrusted,
      Block.pollChecks_eq]
    simp
  · have r := (b.pollChecks ts).forwardPass_frame_rule
    rw [r.frame, r.idx, r.tLast, r.calStart, r.calState, r.frameDone, r.syncTrusted,
      Block.pollChecks_eq]
    simp
  · rw [Block.pollChecks_eq]
    simp

theorem Block.pollWork_expires : (b.pollWork ts).expires ts = b.expires ts := by
  have h := b.pollWork_unwritten ts
  simp only [Block.expires, h.2.2.2.2.1, h.2.2.2.1]

/-- The window check writes CAL_STATE only, so every other field of POLL is that of its work. -/
theorem Block.poll_eq :
    b.poll ts =
      (b.pollWork ts).setCalState (if b.expires ts = true then .calibrated else b.calState) := by
  have hs := (b.pollWork_unwritten ts).2.2.2.2.1
  unfold Block.poll Block.calExpire
  rw [b.pollWork_expires ts]
  split
  · rfl
  · rw [← hs]
    rfl

theorem Block.poll_unwritten :
    (b.poll ts).frame = b.frame ∧ (b.poll ts).idx = b.idx ∧ (b.poll ts).tLast = b.tLast ∧
      (b.poll ts).calStart = b.calStart := by
  have h := b.pollWork_unwritten ts
  rw [Block.poll_eq]
  exact ⟨h.1, h.2.1, h.2.2.1, h.2.2.2.1⟩

@[simp] theorem Block.poll_frameDone : (b.poll ts).frameDone = false := by
  rw [Block.poll_eq]
  exact (b.pollWork_unwritten ts).2.2.2.2.2.1

@[simp] theorem Block.poll_syncTrusted :
    (b.poll ts).syncTrusted = (b.syncTrusted && (!b.signalPresent ts || b.frameInSync)) := by
  rw [Block.poll_eq]
  exact (b.pollWork_unwritten ts).2.2.2.2.2.2

@[simp] theorem Block.poll_calState :
    (b.poll ts).calState = if b.expires ts = true then .calibrated else b.calState := by
  rw [Block.poll_eq]
  rfl

@[simp] theorem Block.poll_minOf (c : Channel) :
    (b.poll ts).minOf c =
      if b.pollSampled ts = true ∧ lowersMin (b.slot (channelSlot c)) (b.minOf c) = true then
        b.slot (channelSlot c)
      else b.minOf c := by
  rw [Block.poll_eq, Block.setCalState_minOf]
  obtain ⟨hs, -, h⟩ | ⟨hs, -, h⟩ | ⟨hs, -, h⟩ := b.pollWork_cases ts <;> rw [h]
  · simp only [hs, true_and, Block.calRecord_minOf, Block.pollChecks_eq]
    rfl
  · rw [Block.minOf_congr _ _ (b.pollChecks ts).forwardPass_frame_rule.cmin]
    simp [hs, Block.pollChecks_eq]
  · simp [hs, Block.pollChecks_eq]

@[simp] theorem Block.poll_maxOf (c : Channel) :
    (b.poll ts).maxOf c =
      if b.pollSampled ts = true ∧ raisesMax (b.slot (channelSlot c)) (b.maxOf c) = true then
        b.slot (channelSlot c)
      else b.maxOf c := by
  rw [Block.poll_eq, Block.setCalState_maxOf]
  obtain ⟨hs, -, h⟩ | ⟨hs, -, h⟩ | ⟨hs, -, h⟩ := b.pollWork_cases ts <;> rw [h]
  · simp only [hs, true_and, Block.calRecord_maxOf, Block.pollChecks_eq]
    rfl
  · rw [Block.maxOf_congr _ _ (b.pollChecks ts).forwardPass_frame_rule.cmax]
    simp [hs, Block.pollChecks_eq]
  · simp [hs, Block.pollChecks_eq]

theorem Block.pollChecks_axisMoved (a : Axis) : (b.pollChecks ts).axisMoved a = b.axisMoved a := by
  rw [Block.pollChecks_eq]
  rfl

@[simp] theorem Block.poll_rawOf (a : Axis) :
    (b.poll ts).rawOf a =
      if b.pollFwd ts = true ∧ b.axisMoved a = true then b.slot (channelSlot (axisChannel a))
      else b.rawOf a := by
  rw [Block.poll_eq, Block.setCalState_rawOf]
  obtain ⟨-, hf, h⟩ | ⟨-, hf, h⟩ | ⟨-, hf, h⟩ := b.pollWork_cases ts <;> rw [h]
  · rw [Block.rawOf_congr _ _ (b.pollChecks ts).calRecord_frame_rule.lastRaw]
    simp [hf, Block.pollChecks_eq]
  · rw [Block.forwardPass_rawOf, Block.pollChecks_axisMoved]
    simp [hf, Block.pollChecks_eq]
  · simp [hf, Block.pollChecks_eq]

@[simp] theorem Block.poll_axisOf (a : Axis) :
    (b.poll ts).axisOf a =
      if b.pollFwd ts = true ∧ b.axisMoved a = true then b.mapAxisChannel a else b.axisOf a := by
  have hmap : (b.pollChecks ts).mapAxisChannel a = b.mapAxisChannel a := by
    rw [Block.pollChecks_eq]
    rfl
  rw [Block.poll_eq, Block.setCalState_axisOf]
  obtain ⟨-, hf, h⟩ | ⟨-, hf, h⟩ | ⟨-, hf, h⟩ := b.pollWork_cases ts <;> rw [h]
  · rw [Block.axisOf_congr _ _ (b.pollChecks ts).calRecord_frame_rule.axis]
    simp [hf, Block.pollChecks_eq]
  · rw [Block.forwardPass_axisOf, Block.pollChecks_axisMoved, hmap]
    simp [hf, Block.pollChecks_eq]
  · simp [hf, Block.pollChecks_eq]

@[simp] theorem Block.poll_buttonOf (j : Button) :
    (b.poll ts).buttonOf j =
      if b.pollFwd ts = true then decide ((b.slot (buttonSlot j)).toNat ≤ 1500) else b.buttonOf j := by
  rw [Block.poll_eq, Block.setCalState_buttonOf]
  obtain ⟨-, hf, h⟩ | ⟨-, hf, h⟩ | ⟨-, hf, h⟩ := b.pollWork_cases ts <;> rw [h]
  · rw [Block.buttonOf_congr _ _ (b.pollChecks ts).calRecord_frame_rule.button]
    simp [hf, Block.pollChecks_eq]
  · rw [Block.forwardPass_buttonOf]
    simp [hf, Block.pollChecks_eq]
  · simp [hf, Block.pollChecks_eq]

/-- UPD is the four axis tests of the block POLL starts from, under FWD (R87, R95). -/
theorem Block.pollUpd_eq :
    b.pollUpd ts = if b.pollFwd ts = true then b.forwardUpd else 0 := by
  unfold Block.pollUpd Block.forwardUpd
  simp only [Block.pollChecks_axisMoved]

end Sys2Proof.Machine
end

