-- ==== Sys2Proof/Laws/Step.lean ====
section
/-! SUPPORT. What one command and one clock edge can do. -/

namespace Sys2Proof.Machine

/-- The block and the ports after a command: the block of EDGE, of POLL, or the block it had; `commit`
with POLL only; the inputs and `rsp_valid` as before. -/
theorem exec_cases (i : Instr) (s : State) :
    ∃ t, exec i s = .next t ∧ t.inputs = s.inputs ∧ t.rspValid = s.rspValid ∧
      ((∃ ts, i = .edge ts ∧ t.block = s.block.edge ts ∧ t.commit = false) ∨
        (∃ ts, i = .poll ts ∧ t.block = s.block.poll ts ∧ t.commit = true) ∨
        (i.isQuery = true ∧ t.block = s.block ∧ t.commit = false)) := by
  cases i with
  | edge ts => exact ⟨_, rfl, rfl, rfl, .inl ⟨ts, rfl, rfl, rfl⟩⟩
  | poll ts => exact ⟨_, rfl, rfl, rfl, .inr (.inl ⟨ts, rfl, rfl, rfl⟩)⟩
  | _ => exact ⟨_, rfl, rfl, rfl, .inr (.inr ⟨rfl, rfl, rfl⟩)⟩

@[simp] theorem heldCommand_none (rest : List PortInput) : heldCommand none rest = rest := by
  cases rest <;> rfl

@[simp] theorem heldCommand_nil (w : CmdWord) : heldCommand (some w) [] = [{ cmd := some w }] := rfl

@[simp] theorem heldCommand_cons (w : CmdWord) (p : PortInput) (later : List PortInput) :
    heldCommand (some w) (p :: later) = { p with cmd := some (p.cmd.getD w) } :: later := rfl

/-- A clock edge with `rst`, whatever else is presented. -/
theorem step_of_reset {s : State} {p : PortInput} {rest : List PortInput} {t0 : Word}
    (h : s.inputs = p :: rest) (hr : p.reset = some t0) : step s = .next (State.resetAt t0 rest) := by
  simp only [step, fetch, h, hr]

/-- A clock edge with an edge. -/
theorem step_of_edge {s : State} {p : PortInput} {rest : List PortInput} {ts : Word}
    (h : s.inputs = p :: rest) (hr : p.reset = none) (he : p.edge = some ts) :
    step s = exec (decode (edgeWord ts)) (s.accept (heldCommand p.cmd rest) false) := by
  simp only [step, fetch, h, hr, he]

/-- A clock edge with a command alone. -/
theorem step_of_command {s : State} {p : PortInput} {rest : List PortInput} {w : CmdWord}
    (h : s.inputs = p :: rest) (hr : p.reset = none) (he : p.edge = none) (hc : p.cmd = some w) :
    step s = exec (decode w) (s.accept rest true) := by
  simp only [step, fetch, h, hr, he, hc]

/-- A clock edge with nothing presented. -/
theorem step_of_idle {s : State} {p : PortInput} {rest : List PortInput}
    (h : s.inputs = p :: rest) (hr : p.reset = none) (he : p.edge = none) (hc : p.cmd = none) :
    step s = .next (s.idleClock rest) := by
  simp only [step, fetch, h, hr, he, hc]

/-- One clock edge does nothing, resets, or does one command of the presented word. -/
theorem step_cases (s : State) :
    (∃ rest, fetch s = .idle (s.idleClock rest) ∧ step s = .next (s.idleClock rest)) ∨
      (∃ t0 rest, fetch s = .reset t0 rest ∧ step s = .next (State.resetAt t0 rest)) ∨
      ∃ w rest v, fetch s = .run w (s.accept rest v) ∧ step s = exec (decode w) (s.accept rest v) := by
  unfold step
  rcases hf : fetch s with t | ⟨t0, rest⟩ | ⟨w, t⟩
  · refine .inl ?_
    unfold fetch at hf
    repeat' split at hf
    all_goals first | (cases hf; exact ⟨_, rfl, rfl⟩) | cases hf
  · exact .inr (.inl ⟨t0, rest, rfl, rfl⟩)
  · refine .inr (.inr ?_)
    unfold fetch at hf
    repeat' split at hf
    all_goals first | (cases hf; exact ⟨_, _, _, rfl, rfl⟩) | cases hf

/-- One clock edge of a run that answers a next state. -/
theorem run_succ_of_step {s t : State} (k : Nat) (h : step s = .next t) :
    Host.Core.run Sys2Proof.core (k + 1) s = Host.Core.run Sys2Proof.core k t := by
  have hcore : Sys2Proof.core.step s = .next t := h
  simp [Host.Core.run, hcore]

theorem run_zero (s : State) : Host.Core.run Sys2Proof.core 0 s = .next s := rfl

/-- The first command of a run of commands. -/
theorem execList_cons_of_exec {i : Instr} {s t : State} (is : List Instr) (h : exec i s = .next t) :
    execList (i :: is) s = execList is t := by
  rw [execList, h]

/-- A run of commands that answers a next state did its first command, and the rest from there. -/
theorem execList_cons_next {i : Instr} {is : List Instr} {s u : State}
    (h : execList (i :: is) s = .next u) : ∃ t, exec i s = .next t ∧ execList is t = .next u := by
  obtain ⟨t, ht, -⟩ := exec_cases i s
  exact ⟨t, ht, (execList_cons_of_exec is ht).symm.trans h⟩

/-- What holds of every command holds along a run of commands. -/
theorem execList_induction (P : State → State → Prop) (hrefl : ∀ s, P s s)
    (hstep : ∀ i s t u, exec i s = .next t → P t u → P s u) :
    ∀ (is : List Instr) (s u : State), execList is s = .next u → P s u := by
  intro is
  induction is with
  | nil =>
    intro s u h
    cases h
    exact hrefl s
  | cons i is ih =>
    intro s u h
    obtain ⟨t, ht, hu⟩ := execList_cons_next h
    exact hstep i s t u ht (ih t u hu)

end Sys2Proof.Machine
end

