-- ==== Sys2Proof/Tests/Slice0.lean ====
section
/-! SUPPORT. Tests on the vectors of 95_test_vectors.md (each theorem names its rows), the smoke test of
well-formedness, and for every statement with hypotheses a concrete state that meets them all. -/

namespace Sys2Proof.Tests

open Sys2Proof.Machine Sys2Proof.Claims

/-! Helpers. -/

/-- The next state of an outcome. -/
def nextOf : Host.Outcome State Fault Refusal → Option State
  | .next t => some t
  | .fault _ => none
  | .refused _ => none

/-- One step that does a command word. -/
def stepWord (w : Nat) (s : State) : Option State :=
  nextOf (step (s.withFetchWord 36 w))

/-- RSP after one step that does a command word. -/
def rspOf (w : Nat) (s : State) : Option Nat :=
  (stepWord w s).map fun t => t.rsp.toNat

/-- The start state S3 of P3 to P5. -/
def s3 : State :=
  { State.reset with
    block :=
      { frame := #v[15000, 1500, 1500, 1500, 1800, 1600, 1400]
        idx := 6
        tLast := 100000000
        syncTrusted := true
        frameDone := false
        cmin := Vector.replicate 6 1000
        cmax := Vector.replicate 6 2000
        calState := .calibrated
        calStart := 0
        lastRaw := #v[1500, 1500, 1500, 1800]
        axis := #v[128, 128, 128, 204]
        button := #v[false, true] } }

/-- The states of the V-E rows: the reset state but for four elements. -/
def edgeState (idx : Fin 7) (trusted done : Bool) (tLast : Word) : State :=
  { State.reset with
    block :=
      { Block.reset 0 with idx := idx, syncTrusted := trusted, frameDone := done, tLast := tLast } }

/-- The states of the V-P rows, SYNC_TRUSTED 1. -/
def pollState (cal : CalState) (done : Bool) (f0 : Word) : State :=
  { State.reset with
    block :=
      { Block.reset 0 with
        frame := #v[f0, 1400, 1500, 1500, 1600, 1600, 1400]
        idx := 6
        syncTrusted := true
        frameDone := done
        calState := cal } }

/-- The states of the V-F rows. -/
def filterState (p : Word) : State :=
  { s3 with
    block :=
      { s3.block with
        frame := #v[15000, 1500, 1500, 1500, p, 1500, 1501]
        tLast := 0
        lastRaw := Vector.replicate 4 1500
        axis := Vector.replicate 4 128 } }

/-- The state of V-M17. -/
def mapState : State :=
  { State.reset with
    block :=
      { Block.reset 0 with
        frame := #v[15000, 1000, 1500, 1500, 2000, 1600, 1400]
        cmin := #v[1000, 1500, 1500, 1500, 1500, 1500]
        cmax := #v[2000, 1500, 1500, 1500, 1500, 1500] } }

/-! Well-formedness. -/

/-- The one check: a number of more than 36 bits is refused, the largest of 36 bits is not. -/
theorem test_wellformed_refuses_long_number :
    isCommandWord (2 ^ 36) = false ∧ isCommandWord (2 ^ 36 - 1) = true := by decide

theorem test_decode_refuses_long_number :
    (match decodeNumber (2 ^ 36) with | .error .notACommandWord => true | .ok _ => false) = true ∧
    (match decodeNumber (2 ^ 36 - 1) with | .ok i => decide (i = .rsvdF) | .error _ => false) = true := by
  decide

/-- No command is ill formed, at either end of its operand. -/
theorem test_every_operand_is_wellformed :
    (Instr.mapch 0xFFFFFFFF).wellFormed = true ∧ (Instr.rdts 2).wellFormed = true := by decide

/-! Decoding: the words of V-X, one or more for every constructor. -/

theorem test_decode_nop :
    decodeTableWord 36 0x000000000 = some .nop ∧ decodeTableWord 36 0x0DEADBEEF = some .nop := by decide

theorem test_decode_edge :
    decodeTableWord 36 0x100003A98 = some (.edge 15000) ∧
    decodeTableWord 36 0x1FFFFFFFF = some (.edge 4294967295) := by decide

theorem test_decode_poll_sigp :
    decodeTableWord 36 0x201C9C380 = some (.poll 30000000) ∧
    decodeTableWord 36 0x405F9B190 = some (.sigp 100250000) := by decide

theorem test_decode_insync :
    decodeTableWord 36 0x300000000 = some .insync ∧ decodeTableWord 36 0x3FFFFFFFF = some .insync := by
  decide

theorem test_decode_indexed_reads :
    decodeTableWord 36 0x500000004 = some (.mapch 4) ∧
    decodeTableWord 36 0x600000007 = some (.rdslot 7) ∧
    decodeTableWord 36 0x700000001 = some (.rdmin 1) ∧
    decodeTableWord 36 0x800000001 = some (.rdmax 1) ∧
    decodeTableWord 36 0x900000004 = some (.rdaxis 4) ∧
    decodeTableWord 36 0xC00000002 = some (.rdraw 2) ∧
    decodeTableWord 36 0xD00000001 = some (.rdts 1) := by decide

theorem test_decode_plain_reads :
    decodeTableWord 36 0xA00000000 = some .rdbtn ∧
    decodeTableWord 36 0xB00000000 = some .rdstat := by decide

theorem test_decode_reserved :
    decodeTableWord 36 0xE12345678 = some .rsvdE ∧
    decodeTableWord 36 0xF00000000 = some .rsvdF := by decide

/-- Words of P1 and P4, written by the encoder. -/
theorem test_encode_words :
    encode (.edge 1500) = 0x1000005DC ∧ encode (.poll 5100) = 0x2000013EC ∧
    encode (.sigp 100250001) = 0x405F9B191 ∧ encode .insync = 0x300000000 ∧
    encode (.rdmin 6) = 0x700000006 := by decide

/-! EDGE. -/

/-- V-E5: the resynchronization wins over the frame-complete of the same edge. -/
theorem test_edge_resync_withdraws_frame_done :
    (stepWord 0x1000032C8 (edgeState 5 false false 1000)).map (fun t =>
        ((t.block.slot 0).toNat, (t.block.slot 6).toNat, t.block.idx, t.rsp.toNat,
          t.block.statWord.toNat)) =
      some (12000, 12000, 0, 3, 0x05) := by decide

/-- V-E2: the clock wraps. -/
theorem test_edge_across_the_wrap :
    (stepWord 0x1000002C0 (State.resetAt 4294967000 [])).map (fun t =>
        ((t.block.slot 1).toNat, t.block.tLast.toNat, t.rsp.toNat, t.block.statWord.toNat)) =
      some (1000, 704, 0, 0x14) := by decide

/-! INSYNC, SIGP. -/

/-- V-S2, V-S3. -/
theorem test_insync_bound :
    rspOf 0x300000000 (pollState .calibrating true 4999) = some 0 ∧
    rspOf 0x300000000 (pollState .calibrating true 5000) = some 1 := by decide

/-- V-H5, V-H6. -/
theorem test_sigp_bound_across_the_wrap :
    rspOf 0x40002C9B0 (edgeState 0 true false 4294900000) = some 1 ∧
    rspOf 0x40002C9B1 (edgeState 0 true false 4294900000) = some 0 := by decide

/-! POLL. -/

/-- V-P1. -/
theorem test_poll_records_a_sample :
    (stepWord 0x200000064 (pollState .calibrating true 12000)).map (fun t =>
        (t.rsp.toNat, t.block.cmin.toList.map BitVec.toNat, t.block.cmax.toList.map BitVec.toNat,
          t.block.statWord.toNat, t.commit)) =
      some (7, [1400, 1500, 1500, 1500, 1500, 1400], [1500, 1500, 1500, 1600, 1600, 1500], 0x65,
        true) := by decide +kernel

/-- V-F3. -/
theorem test_poll_forwards :
    (stepWord 0x20000000A (filterState 1521)).map (fun t =>
        (t.rsp.toNat, t.block.axis.toList.map BitVec.toNat, (t.block.rawOf 3).toNat,
          t.block.button.toList)) =
      some (0x8B, [128, 128, 128, 133], 1521, [true, false]) := by decide

/-- V-C1, V-C2, V-C3, V-C3d, V-C3e: which bound a sample moves. -/
theorem test_calibration_threshold :
    lowersMin 1350 1500 = true ∧ lowersMin 1100 1350 = false ∧ lowersMin 1150 1350 = true ∧
    raisesMax 1700 1500 = true ∧ raisesMax 1701 1500 = false ∧ lowersMin 1500 1500 = false := by decide

/-! MAPCH and the mapper. -/

/-- V-M17. -/
theorem test_mapch_axes :
    rspOf 0x500000001 mapState = some 0 ∧ rspOf 0x500000002 mapState = some 128 ∧
    rspOf 0x500000004 mapState = some 128 := by decide

/-- V-M17. -/
theorem test_mapch_buttons_and_outside :
    rspOf 0x500000005 mapState = some 1 ∧ rspOf 0x500000006 mapState = some 0 ∧
    rspOf 0x500000000 mapState = some 0 ∧ rspOf 0x500000007 mapState = some 0 ∧
    rspOf 0x5FFFFFFFF mapState = some 0 := by decide

/-- V-M3, V-M7, V-M8, V-M9, V-M10, V-M11, V-M11e, V-M12, V-M15a, V-M15d. -/
theorem test_map_axis_rows :
    mapAxis 1500 1000 2000 = 128 ∧ mapAxis 4294967295 1000 2000 = 255 ∧
    mapAxis 1001 1000 2000 = 0 ∧ mapAxis 1002 1000 2000 = 1 ∧ mapAxis 1998 1000 2000 = 254 ∧
    mapAxis 1999 1000 2000 = 255 ∧ mapAxis 1250 1000 1500 = 128 ∧ mapAxis 1500 1500 1500 = 128 ∧
    mapAxis 1101 1100 1102 = 128 ∧ mapAxis 1600 1700 1600 = 128 := by decide

/-- V-M16. -/
theorem test_map_button_rows :
    mapButton 1500 = 0 ∧ mapButton 1501 = 1 ∧ mapButton 0 = 0 ∧ mapButton 4294967295 = 1 := by decide

/-! The read commands, from P5. -/

theorem test_nop : rspOf 0x000000000 s3 = some 0 := by decide

theorem test_rdslot :
    rspOf 0x600000000 s3 = some 15000 ∧ rspOf 0x600000004 s3 = some 1800 ∧
    rspOf 0x600000007 s3 = some 0 := by decide

theorem test_rdmin : rspOf 0x700000001 s3 = some 1000 ∧ rspOf 0x700000000 s3 = some 0 := by decide

theorem test_rdmax : rspOf 0x800000001 s3 = some 2000 ∧ rspOf 0x800000007 s3 = some 0 := by decide

theorem test_rdaxis : rspOf 0x900000004 s3 = some 204 ∧ rspOf 0x900000005 s3 = some 0 := by decide

theorem test_rdbtn : rspOf 0xA00000000 s3 = some 2 := by decide

theorem test_rdstat : rspOf 0xB00000000 s3 = some 0x69 := by decide

theorem test_rdraw : rspOf 0xC00000004 s3 = some 1800 ∧ rspOf 0xC00000000 s3 = some 0 := by decide

theorem test_rdts :
    rspOf 0xD00000000 s3 = some 100000000 ∧ rspOf 0xD00000001 s3 = some 0 ∧
    rspOf 0xD00000002 s3 = some 0 := by decide

/-- V-X14. -/
theorem test_reserved_act_as_nop :
    rspOf 0xE12345678 s3 = some 0 ∧ rspOf 0xF00000000 s3 = some 0 := by decide

/-- Every command but EDGE and POLL leaves the block (P5: "none of them changes the state"). -/
theorem test_queries_leave_the_block :
    (stepWord 0x500000004 s3).map State.block = some s3.block ∧
    (stepWord 0xB00000000 s3).map State.block = some s3.block := by decide

/-! The assembler, from P1 and P4. -/

theorem test_assembler_reads_lines :
    readLine ['P', 'U', 'L', 'S', 'E', ' ', '1', '5', '0', '0'] = some (some (.pulse 1500)) ∧
    readLine ['R', 'D', 'M', 'I', 'N', ' ', '0', 'x', '6', ' ', ';', 'c'] =
      some (some (.command (.rdmin 6))) ∧
    readLine ['P', 'O', 'L', 'L', 'N', 'O', 'W'] = some (some .pollNow) ∧
    readLine ['P', 'O', 'L', 'L'] = none := by decide

theorem test_assembler_writes_words :
    wordText (encode (.edge 18500)) = ['0', 'x', '1', '0', '0', '0', '0', '4', '8', '4', '4'] := by
  decide

theorem test_assembler_moves_the_cursor :
    expandProgram [.reset 0, .pulse 1500, .wait 10, .pollNow] =
      [{ reset := some 0 }, { cmd := some 0x1000005DC }, { cmd := some 0x2000005E6 }] := by decide

/-! The ports: what a tie leaves for the next clock edge (R50, R37, R131). -/

/-- An edge, a re-shown command and a reset at the clock edge behind a tie. -/
theorem test_held_command_joins_the_next_clock_edge :
    heldCommand (some 0x200000064) [{ edge := some 9 }] =
        [{ edge := some 9, cmd := some 0x200000064 }] ∧
      heldCommand (some 0x200000064) [{ cmd := some 0x200000064 }] =
        [{ cmd := some 0x200000064 }] ∧
      heldCommand (some 0x200000064) [{ reset := some 5 }] =
        [{ reset := some 5, cmd := some 0x200000064 }] := by decide

/-- A tie, then an edge: the second edge goes before the command, which is done once. -/
theorem test_tie_then_edge :
    (nextOf (Host.Core.run Sys2Proof.core 3
        { State.reset with
          inputs := [{ edge := some 1000, cmd := some 0xD00000000 }, { edge := some 2500 }] })).map
        (fun t => (t.rsp.toNat, t.rspValid, t.block.idx, t.inputs)) =
      some (2500, true, 2, []) := by decide

/-- A tie, then a reset: the command is not done. -/
theorem test_tie_then_reset :
    (nextOf (Host.Core.run Sys2Proof.core 2
        { State.reset with
          inputs := [{ edge := some 1000, cmd := some 0x200000064 }, { reset := some 5 }] })).map
        (fun t => (t.block.tLast.toNat, t.rspValid, t.commit, t.inputs)) =
      some (5, false, false, []) := by decide

/-! What meets the hypotheses of the statements, in their order. -/

theorem test_witness_ResetInputSetsEveryElement :
    ({ s3 with inputs := [{ reset := some 7, cmd := some 0x200000064 }] } : State).inputs =
        [{ reset := some 7, cmd := some 0x200000064 }] ∧
      ({ reset := some 7, cmd := some 0x200000064 } : PortInput).reset = some 7 := by decide

theorem test_witness_HeldResetKeepsTheLastReading :
    (∀ p ∈ ([{ reset := some 1 }] : List PortInput), p.reset.isSome = true) ∧
      ({ reset := some 2 } : PortInput).reset = some 2 ∧
      ({ s3 with inputs := [{ reset := some 1 }, { reset := some 2 }] } : State).inputs =
        [{ reset := some 1 }] ++ { reset := some 2 } :: [] := by decide

/-- An invariant holds at the start and after a run: reset, and S3. -/
theorem test_witness_Inv : (Block.reset 5).Inv ∧ s3.block.Inv := by decide

theorem test_witness_StepRunsTheDecodedCommand :
    (s3.withFetchWord 36 0x201C9C380).inputs = [{ cmd := some 0x201C9C380 }] ∧
      ({ cmd := some 0x201C9C380 } : PortInput).reset = none ∧
      ({ cmd := some 0x201C9C380 } : PortInput).edge = none ∧
      decode 0x201C9C380 = .poll 30000000 ∧ (Instr.poll 30000000).wellFormed = true := by decide

theorem test_witness_EdgePortRunsEdgeFirst :
    ({ s3 with inputs := [{ edge := some 9, cmd := some 0x200000009 }] } : State).inputs =
        [{ edge := some 9, cmd := some 0x200000009 }] ∧
      ({ edge := some 9, cmd := some 0x200000009 } : PortInput).reset = none ∧
      ({ edge := some 9, cmd := some 0x200000009 } : PortInput).edge = some 9 := by decide

/-- An edge and a poll at one instant after reset, at both ends of the pause range. -/
theorem test_witness_SimultaneousEdgeGoesBeforePoll (ts : Word) (h : ts = 5001 ∨ ts = 19999) :
    ({ State.reset with inputs := [{ edge := some ts, cmd := some 0x200001389 }] } : State).inputs =
        { edge := some ts, cmd := some 0x200001389 } :: [] ∧
      FreeFor 0x200001389 [] ∧ FreeFor 0x200001389 [{ cmd := some 0x200001389 }] ∧
      State.reset.block.syncTrusted = false ∧ 5000 < (ts - State.reset.block.tLast).toNat ∧
      (ts - State.reset.block.tLast).toNat < 20000 := by
  rcases h with rfl | rfl <;> decide

/-- The end of the list, and a presentation of nothing before a command. -/
theorem test_witness_IdleClockKeepsTheBlock :
    s3.inputs = [] ∧
      ({ s3 with inputs := [{}, { cmd := some 0x000000000 }] } : State).inputs =
        {} :: [{ cmd := some 0x000000000 }] ∧
      ({} : PortInput).reset = none ∧ ({} : PortInput).edge = none ∧ ({} : PortInput).cmd = none := by
  decide

/-- V-E5: slot 6 filled and a resynchronization. -/
theorem test_witness_EdgeMeasuresStoresAndResyncs :
    (12000 : Word) = 13000 - (edgeState 5 false false 1000).block.tLast ∧
      (6 : Fin 7) = (if (edgeState 5 false false 1000).block.idx = 6 then 0
        else (edgeState 5 false false 1000).block.idx + 1) ∧
      true = decide ((6 : Fin 7) = 6) ∧
      true = decide ((edgeState 5 false false 1000).block.syncTrusted = false ∧
        5000 < (12000 : Word).toNat ∧ (12000 : Word).toNat < 20000) := by decide

/-- V-E4: the pause range at 5000, 5001, 19999 and 20000; the index wraps after slot 6 (V-E3). -/
theorem test_edge_bounds :
    ([5000, 5001, 19999, 20000].map fun ts : Word =>
        (edgeState 0 false false 0).block.edgeRs ts) = [false, true, true, false] ∧
      (edgeState 6 true false 0).block.nextIdx = 0 ∧ (edgeState 6 true false 0).block.edgeFc = false := by
  decide

/-- X1 with six further edges and a POLL among them. -/
theorem test_witness_ResyncHoldsForTheWholeFrame :
    State.reset.block.syncTrusted = false ∧
      5000 < ((5001 : Word) - State.reset.block.tLast).toNat ∧
      ((5001 : Word) - State.reset.block.tLast).toNat < 20000 ∧
      (([.edge 6001, .edge 7501, .edge 9001, .poll 9001, .edge 11001, .edge 12601, .edge 14001] :
          List Instr).filter fun i => match i with | .edge _ => true | _ => false).length ≤ 6 ∧
      ∃ t u, exec (.edge 5001) State.reset = .next t ∧
        execList
          [.edge 6001, .edge 7501, .edge 9001, .poll 9001, .edge 11001, .edge 12601, .edge 14001] t =
            .next u :=
  ⟨by decide, by decide, by decide, by decide, _, _, rfl, rfl⟩

/-- A pulse of exactly 5000, and one of exactly 20000, is no pause (V-E4b, V-E4e). -/
theorem test_witness_NoPauseInRangeMeansNoResync (ts : Word) (h : ts = 5000 ∨ ts = 20000) :
    State.reset.block.syncTrusted = false ∧
      (∀ (before after : List Instr) (x : Word) (t : State),
        [.edge ts] = before ++ .edge x :: after → execList before State.reset = .next t →
        ¬(5000 < (x - t.block.tLast).toNat ∧ (x - t.block.tLast).toNat < 20000)) ∧
      ∃ u, execList [.edge ts] State.reset = .next u := by
  refine ⟨by decide, fun before after x t e he => ?_, _, rfl⟩
  cases before with
  | nil =>
    cases he
    cases e
    rcases h with rfl | rfl <;> decide
  | cons i is => simp at e

theorem test_witness_FramePseudoInstructionFillsTheSlots :
    s3.block.syncTrusted = true ∧ s3.block.idx = 6 ∧
      ({ s3 with inputs := (expandLine s3.block.tLast (.frame 15000 1500 1500 1500 1810 1600 1400)).2 } :
          State).inputs =
        (expandLine s3.block.tLast (.frame 15000 1500 1500 1500 1810 1600 1400)).2 := by decide

/-- At the limit itself, 250000 µs after the edge, and at the edge. -/
theorem test_witness_EdgeBringsTheSignalBack :
    (∃ t, exec (.edge 1000) s3 = .next t) ∧ ((251000 : Word) - 1000).toNat ≤ 250000 ∧
      ((1000 : Word) - 1000).toNat ≤ 250000 :=
  ⟨⟨_, rfl⟩, by decide, by decide⟩

/-- V-P4 at 250001; at 250000 the signal is present. -/
theorem test_witness_PollWithoutSignalHoldsTrustBoundsAndOutputs :
    ¬Present (pollState .calibrating true 12000).block 250001 ∧
      Present (pollState .calibrating true 12000).block 250000 := by decide

/-- V-P6 at 4999. -/
theorem test_witness_PollOutOfSyncWithdrawsTrust :
    Present (pollState .calibrated true 4999).block 100 ∧
      ¬InSync (pollState .calibrated true 4999).block := by decide

/-- V-P1 at 5000, with samples below (1400), inside (1500) and above (1600) the bounds. -/
theorem test_witness_PollRecordsASample :
    Present (pollState .calibrating true 5000).block 100 ∧
      InSync (pollState .calibrating true 5000).block ∧
      (pollState .calibrating true 5000).block.calState = .calibrating ∧
      (pollState .calibrating true 5000).block.frameDone = true ∧
      (1 : Fin 7).val = (0 : Fin 6).val + 1 ∧ (6 : Fin 7).val = (5 : Fin 6).val + 1 := by decide

/-- V-P8 and V-P2. -/
theorem test_witness_PollWithoutWorkWritesNoBoundsNoOutputs :
    (Present (pollState .idle true 12000).block 100 ∧ InSync (pollState .idle true 12000).block ∧
      (pollState .idle true 12000).block.calState = .idle) ∧
    Present (pollState .calibrating false 12000).block 100 ∧
      InSync (pollState .calibrating false 12000).block ∧
      (pollState .calibrating false 12000).block.calState = .calibrating ∧
      (pollState .calibrating false 12000).block.frameDone = false := by decide

/-- V-F2 and V-F3: a difference of 20 and one of 21, at axis 4. -/
theorem test_witness_PollForwardsTheOutputs :
    ((3 : Fin 6).val = (3 : Fin 4).val ∧ (4 : Fin 7).val = (3 : Fin 4).val + 1) ∧
    (Present (filterState 1520).block 10 ∧ InSync (filterState 1520).block ∧
      (filterState 1520).block.calState = .calibrated ∧
      distance ((filterState 1520).block.slot 4) ((filterState 1520).block.rawOf 3) = 20) ∧
    Present (filterState 1521).block 10 ∧ InSync (filterState 1521).block ∧
      (filterState 1521).block.calState = .calibrated ∧
      distance ((filterState 1521).block.slot 4) ((filterState 1521).block.rawOf 3) = 21 := by decide

/-- V-C6 and V-C7: the last microsecond of the window, and its end. -/
theorem test_witness_WindowEndsAtThirtySeconds :
    ¬WindowOver (edgeState 0 false false 0).block 29999999 ∧
      WindowOver (edgeState 0 false false 0).block 30000000 := by decide

/-- Both clauses: a POLL that forwards, then one at the same `ts`; and one that records. -/
theorem test_witness_SecondPollRecordsNothing :
    (∃ t u, exec (.poll 10) (filterState 1521) = .next t ∧ exec (.poll 10) t = .next u ∧
      t.block.calState = (filterState 1521).block.calState ∧ t.rsp.getLsbD 3 = true) ∧
    ∃ t u, exec (.poll 100) (pollState .calibrating true 12000) = .next t ∧
      exec (.poll 100) t = .next u ∧
      t.block.calState = (pollState .calibrating true 12000).block.calState :=
  ⟨⟨_, _, rfl, rfl, by decide, by decide⟩, _, _, rfl, rfl, by decide +kernel⟩

/-- A POLL of each kind: SAMPLED, FWD, neither. -/
theorem test_witness_PollResponseBitsAreConsistent :
    (∃ t, exec (.poll 100) (pollState .calibrating true 12000) = .next t ∧
      t.rsp.getLsbD 2 = true ∧ t.rsp.getLsbD 1 = true) ∧
    (∃ t, exec (.poll 10) (filterState 1521) = .next t ∧ t.rsp.getLsbD 3 = true) ∧
    ∃ t, exec (.poll 100) (pollState .calibrating true 4999) = .next t ∧ t.rsp.getLsbD 3 = false :=
  ⟨⟨_, rfl, by decide +kernel, by decide +kernel⟩, ⟨_, rfl, by decide⟩, _, rfl, by decide⟩

/-- For the statements about every next state: a POLL, an EDGE and a query that have one. -/
theorem test_witness_every_kind_of_command_completes :
    (∃ t, exec (.poll 10) s3 = .next t) ∧ (∃ t, exec (.edge 10) s3 = .next t) ∧
      (Instr.rdmin 6).isQuery = true ∧ ∃ t, exec (.rdmin 6) s3 = .next t :=
  ⟨⟨_, rfl⟩, ⟨_, rfl⟩, rfl, _, rfl⟩

/-- Every clause of MapchAnswersTheMapping at the ends of its index range. -/
theorem test_witness_MapchAnswersTheMapping :
    ((1 : Fin 7).val = (0 : Fin 6).val + 1 ∧ (1 : Word).toNat = (1 : Fin 7).val ∧ (1 : Fin 7).val ≤ 4) ∧
    ((4 : Fin 7).val = (3 : Fin 6).val + 1 ∧ (4 : Word).toNat = (4 : Fin 7).val ∧ (4 : Fin 7).val ≤ 4) ∧
    ((5 : Word).toNat = (5 : Fin 7).val ∧ 5 ≤ (5 : Fin 7).val) ∧
    ((6 : Word).toNat = (6 : Fin 7).val ∧ 5 ≤ (6 : Fin 7).val) ∧
    (0 : Word).toNat = 0 ∧ 7 ≤ (7 : Word).toNat ∧ 7 ≤ (0xFFFFFFFF : Word).toNat := by decide

/-- The three clauses of MapperGuardsAndSaturates at the values where they meet. -/
theorem test_witness_MapperGuardsAndSaturates :
    (1500 : Word).toNat ≤ (1500 : Word).toNat ∧ (1000 : Word).toNat < (2000 : Word).toNat ∧
      (1000 : Word).toNat ≤ (1000 : Word).toNat ∧ (2000 : Word).toNat ≤ (2000 : Word).toNat := by decide

/-- Just inside both bounds of (1000, 2000). -/
theorem test_witness_InterpolationRoundsHalfUp :
    ((1000 : Word).toNat < (1001 : Word).toNat ∧ (1001 : Word).toNat < (2000 : Word).toNat ∧
        1000 = (2000 : Word).toNat - (1000 : Word).toNat ∧ 0 = (mapAxis 1001 1000 2000).toNat) ∧
      (1000 : Word).toNat < (1999 : Word).toNat ∧ (1999 : Word).toNat < (2000 : Word).toNat := by decide

theorem test_witness_InterpolationIsMonotone : (1500 : Word).toNat ≤ (1501 : Word).toNat := by decide

theorem test_witness_CalibrationOrderDoesNotMatter :
    ([5, 4, 3, 2, 1, 0] : List (Fin 6)).Perm [0, 1, 2, 3, 4, 5] := by decide

theorem test_witness_ForwardOrderDoesNotMatter :
    ([.inr 1, .inl 3, .inr 0, .inl 2, .inl 1, .inl 0] : List (Fin 4 ⊕ Fin 2)).Perm
      [.inl 0, .inl 1, .inl 2, .inl 3, .inr 0, .inr 1] := by decide

/-- S3 meets the invariant and its next clock edge, a POLL, has a next state. -/
theorem test_witness_InvariantIsKeptByEveryStep :
    s3.block.Inv ∧ ∃ t, step (s3.withFetchWord 36 0x205F9B190) = .next t :=
  ⟨by decide, _, rfl⟩

/-- A run that records a sample. -/
theorem test_witness_CalibrationRangeOnlyWidens :
    (pollState .calibrating true 12000).block.Inv ∧
      ∃ t, execList [.poll 100, .edge 1000] (pollState .calibrating true 12000) = .next t ∧
        t.block.minOf 0 = 1400 :=
  ⟨by decide, _, rfl, by decide +kernel⟩

theorem test_witness_CalibratedIsForEver :
    s3.block.calState = .calibrated ∧ s3.block.Inv ∧ (s3.block.minOf 5).toNat < 1500 ∧
      1500 < (s3.block.maxOf 5).toNat ∧
      ∃ t, execList [.edge 100015000, .poll 100015000] s3 = .next t :=
  ⟨by decide, by decide, by decide, by decide, _, rfl⟩

/-- While Calibrating, with a clock edge that has a next state; and at S3, once Calibrated. -/
theorem test_witness_OutputsRestUntilCalibrated :
    OutputsRest (pollState .calibrating true 12000).block ∧ OutputsRest s3.block ∧
      ∃ t, step ((pollState .calibrating true 12000).withFetchWord 36 0x200000064) = .next t :=
  ⟨by decide, by decide, _, rfl⟩

theorem test_witness_OutputsRestOverRunsFromReset :
    (State.resetAt 5 []).block = Block.reset 5 ∧
      ∃ t, execList [.edge 12005, .poll 29999999] (State.resetAt 5 []) = .next t ∧
        t.block.calState = .calibrating :=
  ⟨rfl, _, rfl, by decide⟩

theorem test_witness_QueriesAreInvisible :
    (∀ q ∈ ([.rdstat, .mapch 4, .rsvdE] : List Instr), q.isQuery = true) ∧
      (∃ t, exec (.poll 10) s3 = .next t) ∧ ∃ t, exec .rdstat s3 = .next t :=
  ⟨by decide, ⟨_, rfl⟩, _, rfl⟩

/-- Two states with one block and different ports answer every read command alike. -/
theorem test_witness_ReadCommandsShowTheWholeBlock :
    ∀ (i : Instr) (t t' : State), isReadCommand i = true → exec i s3 = .next t →
      exec i { s3 with rsp := 9, commit := true } = .next t' → t.rsp = t'.rsp := by
  intro i t t' hq h h'
  cases i <;> first | (cases hq; done) | (cases h; cases h'; rfl)

theorem test_witness_ClockOffsetIsInvisible :
    ({ s3 with block := shiftBlock 7 s3.block } : State).block = shiftBlock 7 s3.block ∧
      (∃ t, execList [.edge 100015000, .poll 100015000] s3 = .next t) ∧
      ∀ idx, Instr.sigp 5 ≠ .rdts idx :=
  ⟨rfl, ⟨_, rfl⟩, fun _ h => by cases h⟩

/-- A tie, two more edges (the command shown again beside the second), then a free clock edge. -/
theorem test_witness_TiedCommandIsHeldBehindEdges :
    (∀ q ∈ ([{ edge := some 1000, cmd := some 0x200000064 }, { edge := some 2500 },
          { edge := some 4000, cmd := some 0x200000064 }] : List PortInput),
        q.reset = none ∧ q.edge.isSome = true ∧ (q.cmd = none ∨ q.cmd = some 0x200000064)) ∧
      FreeFor 0x200000064 [] ∧ FreeFor 0x200000064 [{}, { edge := some 5000 }] := by decide

theorem test_witness_HeldCommandIsIgnoredAtReset :
    ({ edge := some 1000, cmd := some 0x200000064 } : PortInput).reset = none ∧
      ({ edge := some 1000, cmd := some 0x200000064 } : PortInput).edge.isSome = true ∧
      ({ reset := some 5 } : PortInput).reset = some 5 ∧
      ({ s3 with
          inputs := [{ edge := some 1000, cmd := some 0x200000064 }, { reset := some 5 }] } : State).inputs =
        { edge := some 1000, cmd := some 0x200000064 } :: { reset := some 5 } :: [] := by decide

/-- Two states with one block, and two clock edges without a command. -/
theorem test_witness_OneStepPerCommandAndNoOtherTime :
    s3.block = ({ s3 with rsp := 9 } : State).block ∧
      ({ s3 with inputs := [{}, {}, { cmd := some 0x000000000 }] } : State).inputs =
        List.replicate 2 { reset := none, edge := none, cmd := none } ++
          [{ cmd := some 0x000000000 }] := by decide

end Sys2Proof.Tests
end

/-! The clock offset (00_scope.md R7, 92_eei_decisions.md D1). The run from a block and the run from the
same block with its two timestamps moved by `d` stay in step: every timestamp enters an operation as a
difference (`sub32_add_add`), every other operation commutes with `shiftBlock`, so each command does, and
with it each list of commands. -/

namespace Sys2Proof.ClockOffset

open Sys2Proof Sys2Proof.Machine Sys2Proof.Claims

variable (d ts : Word) (b : Block)

/-- The offset cancels in the one operation that reads two timestamps (R7). -/
theorem sub32_add_add (now t : Word) : sub32 (now + d) (t + d) = sub32 now t :=
  add_sub_add_right_eq_sub now t d

/-! The registers that are no timestamp. -/

@[simp] theorem shiftBlock_slot (i : Slot) : (shiftBlock d b).slot i = b.slot i := rfl
@[simp] theorem shiftBlock_minOf (c : Channel) : (shiftBlock d b).minOf c = b.minOf c := rfl
@[simp] theorem shiftBlock_maxOf (c : Channel) : (shiftBlock d b).maxOf c = b.maxOf c := rfl
@[simp] theorem shiftBlock_calState : (shiftBlock d b).calState = b.calState := rfl
@[simp] theorem axisMoved_shiftBlock (a : Axis) :
    (shiftBlock d b).axisMoved a = b.axisMoved a := rfl

/-! What reads a timestamp. -/

@[simp] theorem pulse_shiftBlock : (shiftBlock d b).pulse (ts + d) = b.pulse ts :=
  sub32_add_add d ts b.tLast

@[simp] theorem signalPresent_shiftBlock :
    (shiftBlock d b).signalPresent (ts + d) = b.signalPresent ts := by
  have h : sub32 (ts + d) (shiftBlock d b).tLast = sub32 ts b.tLast := sub32_add_add d ts b.tLast
  rw [Block.signalPresent, h, Block.signalPresent]

@[simp] theorem expires_shiftBlock : (shiftBlock d b).expires (ts + d) = b.expires ts := by
  have h : sub32 (ts + d) (shiftBlock d b).calStart = sub32 ts b.calStart :=
    sub32_add_add d ts b.calStart
  rw [Block.expires, h, shiftBlock_calState, Block.expires]

/-! EDGE. -/

theorem edgeRs_shiftBlock : (shiftBlock d b).edgeRs (ts + d) = b.edgeRs ts := by
  rw [Block.edgeRs, pulse_shiftBlock]
  rfl

theorem edgeStored_shiftBlock :
    (shiftBlock d b).edgeStored (ts + d) = shiftBlock d (b.edgeStored ts) := by
  rw [Block.edgeStored_eq, Block.edgeStored_eq, pulse_shiftBlock]
  rfl

theorem resync_shiftBlock (p : Word) :
    (shiftBlock d b).resync p = shiftBlock d (b.resync p) := by
  have h : (shiftBlock d b).resyncs p = b.resyncs p := rfl
  rw [Block.resync, h, Block.resync]
  split <;> rfl

theorem edge_shiftBlock : (shiftBlock d b).edge (ts + d) = shiftBlock d (b.edge ts) := by
  simp only [Block.edge_eq, pulse_shiftBlock, edgeStored_shiftBlock, resync_shiftBlock]

/-! The work of POLL: recording and forwarding read and write no timestamp. -/

theorem recordMin_shiftBlock (c : Channel) :
    (shiftBlock d b).recordMin c = shiftBlock d (b.recordMin c) := by
  rw [Block.recordMin, shiftBlock_slot, shiftBlock_minOf, Block.recordMin]
  split <;> rfl

theorem recordMax_shiftBlock (c : Channel) :
    (shiftBlock d b).recordMax c = shiftBlock d (b.recordMax c) := by
  rw [Block.recordMax, shiftBlock_slot, shiftBlock_maxOf, Block.recordMax]
  split <;> rfl

theorem recordChannel_shiftBlock (c : Channel) :
    (shiftBlock d b).recordChannel c = shiftBlock d (b.recordChannel c) := by
  rw [Block.recordChannel, recordMin_shiftBlock, recordMax_shiftBlock, Block.recordChannel]

theorem recordChannels_shiftBlock (cs : List Channel) :
    (shiftBlock d b).recordChannels cs = shiftBlock d (b.recordChannels cs) := by
  rw [Block.recordChannels, Block.recordChannels,
    List.foldl_hom (shiftBlock d) (recordChannel_shiftBlock d)]

@[simp] theorem calRecord_shiftBlock : (shiftBlock d b).calRecord = shiftBlock d b.calRecord :=
  recordChannels_shiftBlock d b allChannels

theorem filterAxis_shiftBlock (a : Axis) :
    (shiftBlock d b).filterAxis a = shiftBlock d (b.filterAxis a) := by
  rw [Block.filterAxis, axisMoved_shiftBlock, Block.filterAxis]
  split <;> rfl

theorem filterAxes_shiftBlock (as : List Axis) :
    (shiftBlock d b).filterAxes as = shiftBlock d (b.filterAxes as) := by
  rw [Block.filterAxes, Block.filterAxes,
    List.foldl_hom (shiftBlock d) (filterAxis_shiftBlock d)]

theorem forwardButtons_shiftBlock :
    (shiftBlock d b).forwardButtons = shiftBlock d b.forwardButtons := rfl

@[simp] theorem forwardPass_shiftBlock :
    (shiftBlock d b).forwardPass = shiftBlock d b.forwardPass := by
  rw [Block.forwardPass, filterAxes_shiftBlock, forwardButtons_shiftBlock, Block.forwardPass]

/-! POLL. -/

@[simp] theorem pollInsync_shiftBlock :
    (shiftBlock d b).pollInsync (ts + d) = b.pollInsync ts := by
  rw [Block.pollInsync, signalPresent_shiftBlock]
  rfl

@[simp] theorem pollSampled_shiftBlock :
    (shiftBlock d b).pollSampled (ts + d) = b.pollSampled ts := by
  rw [Block.pollSampled, pollInsync_shiftBlock]
  rfl

@[simp] theorem pollFwd_shiftBlock : (shiftBlock d b).pollFwd (ts + d) = b.pollFwd ts := by
  rw [Block.pollFwd, pollInsync_shiftBlock]
  rfl

@[simp] theorem pollUpd_shiftBlock : (shiftBlock d b).pollUpd (ts + d) = b.pollUpd ts := by
  simp [Block.pollUpd_eq, Block.forwardUpd]

@[simp] theorem pollChecks_shiftBlock :
    (shiftBlock d b).pollChecks (ts + d) = shiftBlock d (b.pollChecks ts) := by
  rw [Block.pollChecks_eq, Block.pollChecks_eq, signalPresent_shiftBlock]
  rfl

@[simp] theorem pollWork_shiftBlock :
    (shiftBlock d b).pollWork (ts + d) = shiftBlock d (b.pollWork ts) := by
  simp [Block.pollWork, apply_ite (shiftBlock d)]

theorem poll_shiftBlock : (shiftBlock d b).poll (ts + d) = shiftBlock d (b.poll ts) := by
  rw [Block.poll_eq, Block.poll_eq, pollWork_shiftBlock, expires_shiftBlock]
  rfl

theorem pollWord_shiftBlock : (shiftBlock d b).pollWord (ts + d) = b.pollWord ts := by
  simp [Block.pollWord]

/-! Commands and runs. -/

/-- One command of the moved run does what the command of the given run does, and only RDTS may answer
otherwise. -/
theorem exec_shiftCommand {i : Instr} {s t s' : State} (hs : s'.block = shiftBlock d s.block)
    (ht : exec i s = .next t) :
    ∃ t', exec (shiftCommand d i) s' = .next t' ∧ t'.block = shiftBlock d t.block ∧
      t'.commit = t.commit ∧ ((∀ idx, i ≠ .rdts idx) → t'.rsp = t.rsp) := by
  obtain ⟨b', inputs', rspValid', rsp', commit'⟩ := s'
  obtain rfl : b' = shiftBlock d s.block := hs
  cases i with
  | edge ts =>
    cases ht
    refine ⟨_, rfl, edge_shiftBlock d ts s.block, rfl, fun _ => ?_⟩
    exact congrArg (edgeResponse s.block.edgeFc) (edgeRs_shiftBlock d ts s.block)
  | poll ts =>
    cases ht
    exact ⟨_, rfl, poll_shiftBlock d ts s.block, rfl, fun _ => pollWord_shiftBlock d ts s.block⟩
  | sigp ts =>
    cases ht
    refine ⟨_, rfl, rfl, rfl, fun _ => ?_⟩
    exact congrArg boolResponse (signalPresent_shiftBlock d ts s.block)
  | rdts idx =>
    cases ht
    exact ⟨_, rfl, rfl, rfl, fun h => absurd rfl (h idx)⟩
  | _ =>
    -- No other command reads a timestamp.
    cases ht
    exact ⟨_, rfl, rfl, rfl, fun _ => rfl⟩

/-- The two runs stay in step. -/
theorem execList_shiftCommand (is : List Instr) {s t s' : State}
    (hs : s'.block = shiftBlock d s.block) (ht : execList is s = .next t) :
    ∃ t', execList (is.map (shiftCommand d)) s' = .next t' ∧ t'.block = shiftBlock d t.block := by
  induction is generalizing s s' with
  | nil =>
    cases ht
    exact ⟨s', rfl, hs⟩
  | cons i is ih =>
    obtain ⟨u, hu, hrest⟩ := execList_cons_next ht
    obtain ⟨u', hu', hblock, -, -⟩ := exec_shiftCommand d hs hu
    rw [List.map_cons, execList_cons_of_exec _ hu']
    exact ih hblock hrest

/-- Settles O56: the two runs stay in step, and from their end states one more command, unless it is
RDTS, answers alike. -/
theorem clockOffsetIsInvisible : Obligations.ClockOffsetIsInvisible := by
  intro d is s t s' hs ht
  obtain ⟨t', ht', hblock⟩ := execList_shiftCommand d is hs ht
  refine ⟨t', ht', hblock, fun i hi => ?_⟩
  obtain ⟨u, hu, -⟩ := exec_cases i t
  obtain ⟨u', hu', -, hcommit, hrsp⟩ := exec_shiftCommand d hblock hu
  exact ⟨u, u', hu, hu', hrsp hi, hcommit⟩

end Sys2Proof.ClockOffset

/-! The state of the block along one command (10_state.md R26, R27). A command is EDGE, POLL or a query
(`exec_block`): a query leaves the block, and what EDGE and POLL leave is `Block.edge_unwritten` and
`Block.poll_unwritten`. What POLL may do to the bounds, the outputs and CAL_STATE is read off the
conditions SAMPLED and FWD under which it writes them; the invariant of the clock edge follows from that. -/

namespace Sys2Proof.StateRules

open Sys2Proof Sys2Proof.Machine Sys2Proof.Claims

variable {b b' : Block} {s t : State} {i : Instr}

/-- The block after a command. -/
theorem exec_block (h : exec i s = .next t) :
    (∃ ts, i = .edge ts ∧ t.block = s.block.edge ts) ∨
      (∃ ts, i = .poll ts ∧ t.block = s.block.poll ts) ∨
      (i.isQuery = true ∧ t.block = s.block) := by
  obtain ⟨t', ht', -, -, hcases⟩ := exec_cases i s
  cases h.symm.trans ht'
  obtain ⟨ts, hi, hb, -⟩ | ⟨ts, hi, hb, -⟩ | ⟨hq, hb, -⟩ := hcases
  · exact .inl ⟨ts, hi, hb⟩
  · exact .inr (.inl ⟨ts, hi, hb⟩)
  · exact .inr (.inr ⟨hq, hb⟩)

/-! When POLL samples and when it forwards (43_calibration.md R74, 46_poll.md R93). -/

theorem calState_of_pollSampled {ts : Word} (h : b.pollSampled ts = true) :
    b.calState = .calibrating := by
  simp only [Block.pollSampled, Bool.and_eq_true, decide_eq_true_eq] at h
  exact h.1.2

theorem calState_of_pollFwd {ts : Word} (h : b.pollFwd ts = true) : b.calState = .calibrated := by
  simp only [Block.pollFwd, Bool.and_eq_true, decide_eq_true_eq] at h
  exact h.2

/-! POLL and the registers that R27 speaks of. -/

/-- R27 (c), (h): POLL moves a minimum downwards only, by the noise threshold at most. -/
theorem poll_minOf_step (b : Block) (ts : Word) (c : Channel) :
    ((b.poll ts).minOf c).toNat ≤ (b.minOf c).toNat ∧
      (b.minOf c).toNat - ((b.poll ts).minOf c).toNat ≤ 200 := by
  rw [Block.poll_minOf]
  split
  next h =>
    obtain ⟨hlt, hle⟩ := (lowersMin_iff _ _).1 h.2
    exact ⟨hlt.le, hle⟩
  next => simp

/-- R27 (c), (h): POLL moves a maximum upwards only, by the noise threshold at most. -/
theorem poll_maxOf_step (b : Block) (ts : Word) (c : Channel) :
    (b.maxOf c).toNat ≤ ((b.poll ts).maxOf c).toNat ∧
      ((b.poll ts).maxOf c).toNat - (b.maxOf c).toNat ≤ 200 := by
  rw [Block.poll_maxOf]
  split
  next h =>
    obtain ⟨hlt, hle⟩ := (raisesMax_iff _ _).1 h.2
    exact ⟨hlt.le, hle⟩
  next => simp

/-- R27 (f): only a sampling POLL moves a bound, and it samples while Calibrating. -/
theorem poll_bounds_of_not_calibrating (ts : Word) (h : b.calState ≠ .calibrating) :
    (b.poll ts).cmin = b.cmin ∧ (b.poll ts).cmax = b.cmax := by
  have hs : b.pollSampled ts ≠ true := fun hs => h (calState_of_pollSampled hs)
  exact ⟨b.cmin_eq_of_minOf _ fun c => by simp [hs], b.cmax_eq_of_maxOf _ fun c => by simp [hs]⟩

/-- R27 (g): only a forwarding POLL writes AXIS and LAST_RAW, and it forwards once Calibrated. -/
theorem poll_outputs_of_not_calibrated (ts : Word) (h : b.calState ≠ .calibrated) :
    (b.poll ts).axis = b.axis ∧ (b.poll ts).lastRaw = b.lastRaw := by
  have hf : b.pollFwd ts ≠ true := fun hf => h (calState_of_pollFwd hf)
  exact ⟨b.axis_eq_of_axisOf _ fun a => by simp [hf], b.lastRaw_eq_of_rawOf _ fun a => by simp [hf]⟩

/-- POLL writes no CAL_STATE but Calibrated (43_calibration.md R75). -/
theorem poll_calState_cases (b : Block) (ts : Word) :
    (b.poll ts).calState = b.calState ∨ (b.poll ts).calState = .calibrated := by
  rw [Block.poll_calState]
  split
  · exact .inr rfl
  · exact .inl rfl

/-! R27 of one command. -/

/-- A block with the same bounds, CAL_STATE, AXIS and LAST_RAW is an allowed successor. -/
theorem mayBecome_of_unwritten (hmin : b'.cmin = b.cmin) (hmax : b'.cmax = b.cmax)
    (hcal : b'.calState = b.calState) (hraw : b'.lastRaw = b.lastRaw) (haxis : b'.axis = b.axis) :
    b.MayBecome b' := by
  have hlo := b.minOf_congr b' hmin
  have hhi := b.maxOf_congr b' hmax
  exact ⟨fun c => by simp [hlo, hhi], fun h => hcal.trans h, fun _ => ⟨hmin, hmax⟩,
    fun _ => ⟨haxis, hraw⟩, fun c => by simp [hlo, hhi]⟩

theorem edge_mayBecome (b : Block) (ts : Word) : b.MayBecome (b.edge ts) := by
  obtain ⟨hmin, hmax, hcal, -, hraw, haxis, -⟩ := b.edge_unwritten ts
  exact mayBecome_of_unwritten hmin hmax hcal hraw haxis

theorem poll_mayBecome (b : Block) (ts : Word) : b.MayBecome (b.poll ts) := by
  have hlo := poll_minOf_step b ts
  have hhi := poll_maxOf_step b ts
  refine ⟨fun c => ⟨(hlo c).1, (hhi c).1⟩, fun h => ?_, poll_bounds_of_not_calibrating ts,
    poll_outputs_of_not_calibrated ts, fun c => ⟨(hlo c).2, (hhi c).2⟩⟩
  exact (poll_calState_cases b ts).elim (fun hc => hc.trans h) id

theorem exec_mayBecome (h : exec i s = .next t) : s.block.MayBecome t.block := by
  obtain ⟨ts, -, hb⟩ | ⟨ts, -, hb⟩ | ⟨-, hb⟩ := exec_block h <;> rw [hb]
  · exact edge_mayBecome s.block ts
  · exact poll_mayBecome s.block ts
  · exact mayBecome_of_unwritten rfl rfl rfl rfl rfl

/-- No command makes CAL_STATE anything but Calibrated (10_state.md R17). -/
theorem exec_calState_cases (h : exec i s = .next t) :
    t.block.calState = s.block.calState ∨ t.block.calState = .calibrated := by
  obtain ⟨ts, -, hb⟩ | ⟨ts, -, hb⟩ | ⟨-, hb⟩ := exec_block h <;> rw [hb]
  · obtain ⟨-, -, hcal, -⟩ := s.block.edge_unwritten ts
    exact .inl hcal
  · exact poll_calState_cases s.block ts
  · exact .inl rfl

/-! The invariants (b) and (d) of R27. -/

theorem reset_inv (t0 : Word) : (Block.reset t0).Inv :=
  ⟨fun c => by simp, by simp⟩

/-- Bounds that only widen stay on their sides of the centre, and no command enters Idle. -/
theorem exec_inv (hinv : s.block.Inv) (h : exec i s = .next t) : t.block.Inv := by
  obtain ⟨hcentre, hidle⟩ := hinv
  obtain ⟨hwiden, -⟩ := exec_mayBecome h
  refine ⟨fun c => ⟨(hwiden c).1.trans (hcentre c).1, (hcentre c).2.trans (hwiden c).2⟩, ?_⟩
  obtain hcal | hcal := exec_calState_cases h
  · rwa [hcal]
  · simp [hcal]

/-- Settles O49: a clock edge is idle, a reset or one command. -/
theorem invariantIsKeptByEveryStep : Obligations.InvariantIsKeptByEveryStep := by
  intro s t hinv ht
  obtain ⟨rest, -, hidle⟩ | ⟨t0, rest, -, hreset⟩ | ⟨w, rest, v, -, hrun⟩ := step_cases s
  · cases hidle.symm.trans ht
    exact hinv
  · cases hreset.symm.trans ht
    exact reset_inv t0
  · exact exec_inv (s := s.accept rest v) hinv (hrun.symm.trans ht)

/-- Settles O48, by the three kinds of command. -/
theorem eachElementHasItsWriters : Obligations.EachElementHasItsWriters := by
  intro i s t h
  obtain ⟨ts, rfl, hb⟩ | ⟨ts, rfl, hb⟩ | ⟨-, hb⟩ := exec_block h <;>
    simp only [SameBounds, SameOutputs, hb]
  case inl =>
    obtain ⟨hmin, hmax, hcal, hstart, hraw, haxis, hbutton⟩ := s.block.edge_unwritten ts
    refine ⟨nofun, fun hne => absurd rfl (hne ts), fun _ => ?_, hstart⟩
    exact ⟨⟨hmin, hmax⟩, ⟨hraw, haxis, hbutton⟩, hcal, fun htrust => by simp [htrust]⟩
  case inr.inl =>
    obtain ⟨hframe, hidx, hlast, hstart⟩ := s.block.poll_unwritten ts
    refine ⟨nofun, fun _ => ?_, fun hne => absurd rfl (hne ts), hstart⟩
    refine ⟨hframe, hidx, hlast, fun htrust => ?_, fun hdone => ?_⟩
    · rw [Block.poll_syncTrusted, Bool.and_eq_true] at htrust
      exact htrust.1
    · simp at hdone
  case inr.inr => simp

/-- Settles O50. -/
theorem oneCommandMovesTheBlockAsAllowed : Obligations.OneCommandMovesTheBlockAsAllowed := by
  intro i s t h
  refine ⟨exec_mayBecome h, ?_⟩
  rintro ⟨ts, rfl⟩
  cases h
  obtain ⟨hmin, hmax, -⟩ := s.block.edge_unwritten ts
  exact ⟨hmin, hmax⟩

/-- Settles O3: `State.reset` is the reset at t0 = 0. -/
theorem invariantHoldsAfterReset : Obligations.InvariantHoldsAfterReset :=
  ⟨reset_inv, reset_inv 0⟩

end Sys2Proof.StateRules

/-! The total order of commands (20_memory.md R35 to R37). A query changes RSP and `commit` alone
(`exec_of_isQuery`), which no command reads (`exec_answer`), so queries are invisible. At a tie the EDGE
leaves the held command on the port (`heldCommand_of_freeFor`), and a resynchronizing EDGE leaves a slot 0
that the slot check of any command behind it passes. -/

namespace Sys2Proof.CommandOrder

open Sys2Proof Sys2Proof.Machine Sys2Proof.Claims

variable {b : Block} {s t : State} {i : Instr} {w : CmdWord} {rest : List PortInput}

/-! Queries (R35). -/

/-- A query answers, and that is all it does. -/
theorem exec_of_isQuery (h : i.isQuery = true) (s : State) : ∃ r, exec i s = .next (s.answer r) := by
  cases i with
  | edge ts => cases h
  | poll ts => cases h
  | _ => exact ⟨_, rfl⟩

/-- No command reads what an earlier query drove on the response ports. -/
theorem exec_answer (i : Instr) (s : State) (r : Word) : exec i (s.answer r) = exec i s := by
  cases i <;> rfl

theorem execList_cons_answer (j : Instr) (js : List Instr) (s : State) (r : Word) :
    execList (j :: js) (s.answer r) = execList (j :: js) s := by
  rw [execList, execList, exec_answer]

theorem execList_queries_append (j : Instr) (js : List Instr) (s : State) {qs : List Instr}
    (h : ∀ q ∈ qs, q.isQuery = true) : execList (qs ++ j :: js) s = execList (j :: js) s := by
  induction qs generalizing s with
  | nil => rfl
  | cons q qs ih =>
    obtain ⟨hq, hqs⟩ := List.forall_mem_cons.1 h
    obtain ⟨r, hr⟩ := exec_of_isQuery hq s
    calc execList (q :: (qs ++ j :: js)) s
      _ = execList (qs ++ j :: js) (s.answer r) := execList_cons_of_exec _ hr
      _ = execList (j :: js) (s.answer r) := ih _ hqs
      _ = execList (j :: js) s := execList_cons_answer j js s r

/-- FRAME_DONE is bit 1 of the STAT word (10_state.md R24). -/
theorem statWord_getLsbD_one (b : Block) : b.statWord.getLsbD 1 = b.frameDone := by
  rw [Block.statWord, zext32, BitVec.getLsbD_setWidth, Block.statBits, BitVec.getLsbD_append,
    BitVec.getLsbD_append]
  simp [bit]

/-- Settles O54. -/
theorem queriesAreInvisible : Obligations.QueriesAreInvisible := by
  refine ⟨fun qs js j s hq => execList_queries_append j js s hq, fun s t ts ht => ?_, fun s t ht => ?_⟩
  · cases ht
    exact s.block.poll_frameDone ts
  · cases ht
    exact ⟨statWord_getLsbD_one s.block, rfl⟩

/-! An edge and a command at one instant (R37). -/

/-- The word of the edge port is the EDGE command (30_encoding.md R50). -/
@[simp] theorem decode_edgeWord (ts : Word) : decode (edgeWord ts) = .edge ts := by
  simp [decode, edgeWord]

/-- A next clock edge that is free for the held command shows that command alone. -/
theorem heldCommand_of_freeFor (h : FreeFor w rest) :
    heldCommand (some w) rest = { cmd := some w } :: rest.tail := by
  cases rest with
  | nil => rfl
  | cons q later =>
    obtain ⟨hreset, hedge, hcmd⟩ := h q rfl
    obtain hcmd | hcmd := hcmd <;> simp [hreset, hedge, hcmd]

/-- When an EDGE resynchronizes (40_edge_capture.md R59, R60). -/
theorem edgeRs_iff (b : Block) (ts : Word) :
    b.edgeRs ts = true ↔
      b.syncTrusted = false ∧ 5000 < (ts - b.tLast).toNat ∧ (ts - b.tLast).toNat < 20000 := by
  simp [Block.edgeRs, Block.resyncs, Block.pulse, isPause_iff]

/-- A resynchronizing EDGE leaves the frame order trusted and a pause in slot 0. -/
theorem edge_trusted_inSync {ts : Word} (h : b.edgeRs ts = true) :
    (b.edge ts).syncTrusted = true ∧ InSync (b.edge ts) := by
  obtain ⟨-, hlo, -⟩ := (edgeRs_iff b ts).1 h
  have hslot : (b.edge ts).slot 0 = ts - b.tLast := by simp [h, Block.pulse]
  exact ⟨by simp [h], by rw [InSync, hslot]; exact hlo.le⟩

/-- Only the slot check of POLL takes trust away, and a pause in slot 0 passes it (41_frame_sync.md R63,
R65). -/
theorem exec_keeps_trust (htrust : s.block.syncTrusted = true) (hsync : InSync s.block)
    (h : exec i s = .next t) : t.block.syncTrusted = true := by
  obtain ⟨ts, -, hb⟩ | ⟨ts, -, hb⟩ | ⟨-, hb⟩ := StateRules.exec_block h <;> rw [hb]
  · simp [htrust]
  · simp [htrust, s.block.frameInSync_iff.2 hsync]
  · exact htrust

/-- Settles O6: the first step does the EDGE and leaves the held command alone on the port, the second
does that command. -/
theorem simultaneousEdgeGoesBeforePoll : Obligations.SimultaneousEdgeGoesBeforePoll := by
  intro s ts w rest hin hfree
  have hedge : step s = exec (.edge ts) (s.accept ({ cmd := some w } :: rest.tail) false) := by
    rw [step_of_edge hin rfl rfl, decode_edgeWord, heldCommand_of_freeFor hfree]
  obtain ⟨t, ht, htin, -⟩ := exec_cases (.edge ts) (s.accept ({ cmd := some w } :: rest.tail) false)
  obtain ⟨u, hu, -⟩ := exec_cases (decode w) (t.accept rest.tail true)
  have hcmd : step t = .next u := (step_of_command htin rfl rfl rfl).trans hu
  refine ⟨t, u, ht, hu, ?_, fun huntrusted hlo hhi => ?_⟩
  · rw [run_succ_of_step 1 (hedge.trans ht), run_succ_of_step 0 hcmd, run_zero]
  · obtain ⟨htrust, hsync⟩ := edge_trusted_inSync ((edgeRs_iff s.block ts).2 ⟨huntrusted, hlo, hhi⟩)
    cases ht
    exact exec_keeps_trust htrust hsync hu

end Sys2Proof.CommandOrder

/-! The command word (30_encoding.md R40 to R45). A word whose fields are a command's opcode and
operand decodes to that command (`decode_of_fields`), and the fields of a decoded word are the opcode and,
but for format N, the operand of its command (`opcode_decode`, `arg_decode`). -/

namespace Sys2Proof.CommandWord

open Sys2Proof Sys2Proof.Machine Sys2Proof.Claims

/-- The row of the opcode map (R43) is found by the opcode alone; a format N command takes any ARG
(R45). -/
theorem decode_of_fields {w : CmdWord} {i : Instr} (hop : opField w = i.opcode)
    (harg : i.format = .n ∨ argField w = i.arg) : decode w = i := by
  cases i with
  | nop | insync | rdbtn | rdstat | rsvdE | rsvdF => simp [decode, hop, Instr.opcode]
  | edge | poll | sigp | mapch | rdslot | rdmin | rdmax | rdaxis | rdraw | rdts =>
    have htaken := harg.resolve_left nofun
    simp [decode, hop, htaken, Instr.opcode, Instr.arg]

theorem decode_opcode_append (i : Instr) (arg : Word) (h : i.format = .n ∨ arg = i.arg) :
    decode (i.opcode ++ arg) = i :=
  decode_of_fields (opField_append _ _) (h.imp_right (argField_append _ _).trans)

theorem decode_encode (i : Instr) : decode (encode i) = i :=
  decode_opcode_append i i.arg (.inr rfl)

/-- Settles O10. -/
theorem decodeOfEncodeIsTheCommand : Obligations.DecodeOfEncodeIsTheCommand :=
  fun i _ => decode_encode i

/-- Settles O12. -/
theorem opcodeMapIsFollowed : Obligations.OpcodeMapIsFollowed := fun arg =>
  have ignored (i : Instr) (h : i.format = .n) := decode_opcode_append i arg (.inl h)
  have taken (i : Instr) (h : arg = i.arg) := decode_opcode_append i arg (.inr h)
  ⟨ignored .nop rfl, taken (.edge arg) rfl, taken (.poll arg) rfl, ignored .insync rfl,
    taken (.sigp arg) rfl, taken (.mapch arg) rfl, taken (.rdslot arg) rfl, taken (.rdmin arg) rfl,
    taken (.rdmax arg) rfl, taken (.rdaxis arg) rfl, ignored .rdbtn rfl, ignored .rdstat rfl,
    taken (.rdraw arg) rfl, taken (.rdts arg) rfl, ignored .rsvdE rfl, ignored .rsvdF rfl⟩

/-- Every opcode has a row, and the row's command has that opcode. -/
theorem opcode_decode (w : CmdWord) : (decode w).opcode = opField w := by
  have hlt := (opField w).isLt
  apply BitVec.eq_of_toNat_eq
  unfold decode
  split
  case h_16 =>
    have h15 : (opField w).toNat = 15 := by grind
    exact h15.symm
  all_goals exact Eq.symm ‹_›

/-- A command takes ARG whole, or in format N none of it (R45). -/
theorem arg_decode (w : CmdWord) :
    (decode w).arg = if (decode w).format = .n then 0 else argField w := by
  unfold decode
  split <;> rfl

/-- Settles O11. -/
theorem encodeOfDecodeIsTheWord : Obligations.EncodeOfDecodeIsTheWord := fun w =>
  have ⟨hop, harg⟩ := Laws.EncodedFields.of_append (decode w)
  ⟨hop.trans (opcode_decode w), harg.trans (arg_decode w)⟩

end Sys2Proof.CommandWord

/-! The response and the output ports (30_encoding.md R47, R48, R51). Every layout is a zero-extended
field, which is bounded by the field's width (`toNat_zext32_lt`) and gives the field back
(`setWidth_zext32`). -/

namespace Sys2Proof.ResponsePorts

open Sys2Proof Sys2Proof.Machine Sys2Proof.Claims

theorem toNat_zext32_lt {n : Nat} (v : BitVec n) : (zext32 v).toNat < 2 ^ n := by
  rw [zext32, BitVec.toNat_setWidth]
  exact (Nat.mod_le _ _).trans_lt v.isLt

theorem setWidth_zext32 {n : Nat} (v : BitVec n) (h : n ≤ 32) : (zext32 v).setWidth n = v := by
  rw [zext32, BitVec.setWidth_setWidth_of_le v h, BitVec.setWidth_eq]

/-- Settles O46: each layout of R47 is a zero-extended field, the whole word, or 0. -/
theorem unlistedResponseBitsAreZero : Obligations.UnlistedResponseBitsAreZero := by
  intro i s t h
  cases i with
  | nop | rsvdE | rsvdF => cases h; exact Nat.zero_lt_one
  | edge | poll | insync | sigp | mapch | rdbtn | rdstat => cases h; exact toNat_zext32_lt _
  | rdslot | rdmin | rdmax | rdraw | rdts => exact t.rsp.isLt
  | rdaxis idx =>
    cases h
    rw [State.answer_rsp]
    cases axisIndex idx with
    | none => exact Nat.two_pow_pos 8
    | some a => exact toNat_zext32_lt _

/-- Settles O9. -/
theorem outputPortsShowTheRegisters : Obligations.OutputPortsShowTheRegisters := fun s =>
  ⟨_, _, rfl, rfl, (setWidth_zext32 s.block.statBits (by decide)).symm,
    (setWidth_zext32 s.block.btnBits (by decide)).symm, rfl, rfl, rfl, rfl, rfl, rfl, rfl⟩

theorem btnBits_getLsbD_zero (b : Block) : b.btnBits.getLsbD 0 = b.buttonOf 0 := by
  rw [Block.btnBits, BitVec.getLsbD_append]
  simp [bit]

theorem btnBits_getLsbD_one (b : Block) : b.btnBits.getLsbD 1 = b.buttonOf 1 := by
  rw [Block.btnBits, BitVec.getLsbD_append]
  simp [bit]

/-- The strobe of a command (R48). -/
theorem commit_iff_poll {i : Instr} {s t : State} (h : exec i s = .next t) :
    t.commit = true ↔ ∃ ts, i = .poll ts := by
  obtain ⟨t', ht', -, -, hcases⟩ := exec_cases i s
  cases h.symm.trans ht'
  obtain ⟨ts, rfl, -, hc⟩ | ⟨ts, rfl, -, hc⟩ | ⟨hq, -, hc⟩ := hcases <;> rw [hc]
  · simp
  · simp
  · refine ⟨nofun, ?_⟩
    rintro ⟨ts, rfl⟩
    cases hq

/-- Settles O29. -/
theorem commitWithPollAndNothingElse : Obligations.CommitWithPollAndNothingElse := fun _ _ t h =>
  ⟨commit_iff_poll h, rfl, rfl, rfl, rfl, btnBits_getLsbD_zero t.block, btnBits_getLsbD_one t.block⟩

end Sys2Proof.ResponsePorts

/-! One clock edge at the input ports (30_encoding.md R50, R51), and a run of clock edges that each show an
edge while a command waits (20_memory.md R37). -/

namespace Sys2Proof.InputPorts

open Sys2Proof Sys2Proof.Machine Sys2Proof.Claims Sys2Proof.CommandOrder

/-- Settles O4. -/
theorem stepRunsTheDecodedCommand : Obligations.StepRunsTheDecodedCommand := by
  intro s p rest w i hin hr he hc hi _
  rw [step_of_command hin hr he hc, hi]
  rfl

/-- A clock edge with an edge does EDGE, and a command beside it is held (R50). -/
theorem step_edgePort {s : State} {p : PortInput} {rest : List PortInput} {ts : Word}
    (h : s.inputs = p :: rest) (hr : p.reset = none) (he : p.edge = some ts) :
    step s = exec (.edge ts) (s.accept (heldCommand p.cmd rest) false) := by
  rw [step_of_edge h hr he, decode_edgeWord]

/-- Settles O5: the statement writes `heldCommand` out. -/
theorem edgePortRunsEdgeFirst : Obligations.EdgePortRunsEdgeFirst := by
  intro s p rest ts hin hr he
  rw [step_edgePort hin hr he]
  cases p.cmd with
  | none => rw [heldCommand_none]; rfl
  | some w => cases rest <;> rfl

/-- Settles O8. -/
theorem edgePortAgreesWithEdgeCommand : Obligations.EdgePortAgreesWithEdgeCommand := by
  intro s ts rest
  obtain ⟨t, ht, -, hv, -⟩ := exec_cases (.edge ts) (s.accept rest false)
  refine ⟨t, { t with rspValid := true }, ?_, ?_, hv, rfl⟩
  · exact (step_edgePort rfl rfl rfl).trans (by rwa [heldCommand_none])
  · rw [step_of_command rfl rfl rfl rfl, ← edgeWord, decode_edgeWord]
    cases ht
    rfl

/-- The EDGE commands that a list of presentations shows on the edge port. -/
def edgeCommands (ps : List PortInput) : List Instr :=
  ps.filterMap fun q => q.edge.map Instr.edge

theorem edgeCommands_cons {p : PortInput} {ts : Word} (ps : List PortInput) (h : p.edge = some ts) :
    edgeCommands (p :: ps) = .edge ts :: edgeCommands ps := by
  simp [edgeCommands, h]

/-- The command that waits is shown at the next clock edge beside the edge there, once. -/
theorem heldCommand_of_reshown {w : CmdWord} {q : PortInput} (later : List PortInput)
    (h : q.cmd = none ∨ q.cmd = some w) :
    heldCommand (some w) (q :: later) = { q with cmd := some w } :: later := by
  obtain h | h := h <;> simp [h]

/-- A clock edge that shows an edge beside `w` does that edge; `held` is what the ports show then. -/
theorem step_tied_edge {w : CmdWord} {p : PortInput} {rest held : List PortInput} (qs : List PortInput)
    (s : State) (hreset : p.reset = none) (hedge : p.edge.isSome = true) (hcmd : p.cmd = some w)
    (hheld : heldCommand (some w) rest = held) :
    ∃ t, execList (edgeCommands (p :: qs)) s = execList (edgeCommands qs) t ∧
      ∀ v, step (s.accept (p :: rest) v) = .next (t.accept held false) := by
  obtain ⟨ts, hts⟩ := Option.isSome_iff_exists.1 hedge
  obtain ⟨t, ht, -⟩ := exec_cases (.edge ts) s
  refine ⟨t, ?_, fun v => ?_⟩
  · rw [edgeCommands_cons qs hts, execList_cons_of_exec _ ht]
  · rw [step_edgePort rfl hreset hts, hcmd, hheld]
    cases ht
    rfl

/-- While every clock edge shows an edge, the edges are done in order and the command waits; behind the
last of them it is alone on the port (log entry 4). -/
theorem run_tied_edges {w : CmdWord} {rest : List PortInput} (hfree : FreeFor w rest)
    (qs : List PortInput) (p : PortInput) (s : State) (v : Bool) (hp : p.cmd = some w)
    (hties : ∀ q ∈ p :: qs, q.reset = none ∧ q.edge.isSome = true ∧ (q.cmd = none ∨ q.cmd = some w)) :
    ∃ t, execList (edgeCommands (p :: qs)) s = .next t ∧ ∀ k,
      Host.Core.run Sys2Proof.core (k + 1 + qs.length) (s.accept (p :: qs ++ rest) v) =
        Host.Core.run Sys2Proof.core k (t.accept ({ cmd := some w } :: rest.tail) false) := by
  induction qs generalizing p s v with
  | nil =>
    obtain ⟨⟨hreset, hedge, -⟩, -⟩ := List.forall_mem_cons.1 hties
    obtain ⟨t, ht, hstep⟩ := step_tied_edge [] s hreset hedge hp (heldCommand_of_freeFor hfree)
    exact ⟨t, ht, fun k => run_succ_of_step k (hstep v)⟩
  | cons q qs ih =>
    obtain ⟨⟨hreset, hedge, -⟩, hlater⟩ := List.forall_mem_cons.1 hties
    obtain ⟨⟨hqreset, hqedge, hqcmd⟩, hqs⟩ := List.forall_mem_cons.1 hlater
    obtain ⟨t, ht, hstep⟩ := step_tied_edge (q :: qs) s hreset hedge hp
      (heldCommand_of_reshown (qs ++ rest) hqcmd)
    obtain ⟨u, hu, hrun⟩ := ih { q with cmd := some w } t false rfl
      (List.forall_mem_cons.2 ⟨⟨hqreset, hqedge, .inr rfl⟩, hqs⟩)
    exact ⟨u, ht.trans hu, fun k => (run_succ_of_step _ (hstep v)).trans (hrun k)⟩

/-- Settles O57. -/
theorem tiedCommandIsHeldBehindEdges : Obligations.TiedCommandIsHeldBehindEdges := by
  intro s p qs rest w hin hp hties hfree
  obtain ⟨t, ht, hrun⟩ := run_tied_edges hfree qs p s s.rspValid hp hties
  obtain ⟨u, hu, -⟩ := exec_cases (decode w) (t.accept rest.tail true)
  have hlast : step (t.accept ({ cmd := some w } :: rest.tail) false) = .next u :=
    (step_of_command rfl rfl rfl rfl).trans hu
  refine ⟨t, u, ht, hu, ?_⟩
  calc Host.Core.run Sys2Proof.core (qs.length + 2) s
    _ = Host.Core.run Sys2Proof.core (1 + 1 + qs.length) (s.accept (p :: qs ++ rest) s.rspValid) := by
      rw [← hin, Nat.add_comm]
      rfl
    _ = Host.Core.run Sys2Proof.core 1 (t.accept ({ cmd := some w } :: rest.tail) false) := hrun 1
    _ = .next u := by rw [run_succ_of_step 0 hlast, run_zero]

end Sys2Proof.InputPorts

/-! The assembler's PULSE and FRAME (30_encoding.md R52) on the command port. A clock edge that shows the
EDGE of a PULSE measures exactly the PULSE's duration (`pulse_tLast_add`), and a trusted block stores it
at the next slot (40_edge_capture.md R57), so by induction on the durations a trusted block at IDX 6 stores
them from slot 0 up. -/

namespace Sys2Proof.PulseLines

open Sys2Proof Sys2Proof.Machine Sys2Proof.Claims Sys2Proof.CommandWord

/-- The block after the EDGE of `PULSE d` from the cursor T_LAST. -/
def afterPulse (b : Block) (d : Word) : Block :=
  b.edge (b.tLast + d)

/-- The block after the EDGEs of several PULSE lines. -/
def afterPulses (b : Block) (ds : List Word) : Block :=
  ds.foldl afterPulse b

/-- The EDGEs of PULSE lines on the command port are done one per clock edge, and T_LAST follows the
assembler's cursor. -/
theorem run_expandPulses (ds : List Word) {s : State}
    (h : s.inputs = (expandPulses s.block.tLast ds).2) :
    ∃ t, Host.Core.run Sys2Proof.core ds.length s = .next t ∧ t.block = afterPulses s.block ds ∧
      t.inputs = [] ∧ t.block.tLast = (expandPulses s.block.tLast ds).1 := by
  induction ds generalizing s with
  | nil => exact ⟨s, run_zero s, rfl, h, rfl⟩
  | cons d ds ih =>
    let ts := s.block.tLast + d
    obtain ⟨t, ht, htin, -, -⟩ := exec_cases (.edge ts) (s.accept (expandPulses ts ds).2 true)
    have hblock : t.block = afterPulse s.block d := by cases ht; rfl
    have hcursor : t.block.tLast = ts := by rw [hblock]; exact s.block.edge_tLast ts
    have hstep : step s = .next t := by
      rw [step_of_command h rfl rfl rfl, decode_encode]
      exact ht
    obtain ⟨u, hu, hub, huin, hulast⟩ := ih (htin.trans (by rw [hcursor]; rfl))
    refine ⟨u, (run_succ_of_step _ hstep).trans hu, ?_, huin, ?_⟩
    · rw [hub, hblock]
      rfl
    · rw [hulast, hcursor]
      rfl

theorem pulse_tLast_add (b : Block) (d : Word) : b.pulse (b.tLast + d) = d :=
  add_sub_cancel_left b.tLast d

section
variable {b : Block} (d : Word) (htrust : b.syncTrusted = true)
include htrust

theorem edgeRs_of_trusted (ts : Word) : b.edgeRs ts = false := by
  simp [Block.edgeRs, Block.resyncs, htrust]

theorem afterPulse_syncTrusted : (afterPulse b d).syncTrusted = true := by
  simp [afterPulse, htrust]

theorem afterPulse_idx : (afterPulse b d).idx = b.nextIdx := by
  simp [afterPulse, edgeRs_of_trusted htrust]

theorem afterPulse_slot (i : Slot) :
    (afterPulse b d).slot i = if i = b.nextIdx then d else b.slot i := by
  simp [afterPulse, edgeRs_of_trusted htrust, pulse_tLast_add]

theorem afterPulse_frameDone : (afterPulse b d).frameDone = (b.frameDone || b.edgeFc) := by
  simp [afterPulse, edgeRs_of_trusted htrust]

end

/-- IDX counts the slots round (R57). -/
theorem nextIdx_val (b : Block) : b.nextIdx.val = (b.idx.val + 1) % 7 := by
  unfold Block.nextIdx
  generalize b.idx = k
  revert k
  decide

theorem edgeFc_iff {b : Block} : b.edgeFc = true ↔ b.nextIdx.val = 6 := by
  rw [Block.edgeFc, isLastSlot, decide_eq_true_iff, Fin.ext_iff]
  rfl

/-- A trusted block at IDX 6 stores up to seven durations in the slots from 0 up. -/
theorem afterPulses_fills {b : Block} (htrust : b.syncTrusted = true) (hidx : b.idx = 6)
    (ds : List Word) (hlen : ds.length ≤ 7) :
    (afterPulses b ds).syncTrusted = true ∧ (afterPulses b ds).idx.val = (6 + ds.length) % 7 ∧
      (∀ (i : Slot) (hi : i.val < ds.length), (afterPulses b ds).slot i = ds[i.val]) ∧
      (ds.length = 7 → (afterPulses b ds).frameDone = true) := by
  induction ds using List.reverseRecOn with
  | nil =>
    have hstart : (afterPulses b []).idx.val = 6 := congrArg Fin.val hidx
    exact ⟨htrust, hstart, fun i hi => absurd hi (Nat.not_lt_zero _), nofun⟩
  | append_singleton ds d ih =>
    rw [List.length_append, List.length_singleton] at hlen
    obtain ⟨htrust', hidx', hslot', -⟩ := ih (by omega)
    have hnext : (afterPulses b ds).nextIdx.val = ds.length := by
      rw [nextIdx_val, hidx']
      omega
    rw [afterPulses, List.foldl_concat, ← afterPulses]
    refine ⟨afterPulse_syncTrusted d htrust', ?_, fun i hi => ?_, fun hfull => ?_⟩
    · rw [afterPulse_idx d htrust', hnext, List.length_append, List.length_singleton]
      omega
    · simp only [afterPulse_slot d htrust', Fin.ext_iff, hnext]
      split
      case isTrue heq => simp [heq]
      case isFalse hne =>
        rw [List.length_append, List.length_singleton] at hi
        have hi' : i.val < ds.length := by omega
        rw [hslot' i hi', List.getElem_append_left hi']
    · rw [List.length_append, List.length_singleton] at hfull
      rw [afterPulse_frameDone d htrust', edgeFc_iff.2 (by omega), Bool.or_true]

/-- Settles O17. -/
theorem framePseudoInstructionFillsTheSlots : Obligations.FramePseudoInstructionFillsTheSlots := by
  intro s d0 d1 d2 d3 d4 d5 d6 htrust hidx hin
  obtain ⟨t, hrun, hblock, htin, hlast⟩ := run_expandPulses [d0, d1, d2, d3, d4, d5, d6] hin
  obtain ⟨htrusted, hindex, hslots, hdone⟩ :=
    afterPulses_fills htrust hidx [d0, d1, d2, d3, d4, d5, d6] le_rfl
  refine ⟨t, hrun, ?_, ?_, ?_, ?_, htin, hlast⟩ <;> rw [hblock]
  · exact Vector.ext fun k hk => hslots ⟨k, hk⟩ hk
  · exact Fin.ext (by simpa using hindex)
  · exact hdone rfl
  · exact htrusted

end Sys2Proof.PulseLines

/-! EDGE in the numbers of 40_edge_capture.md R55 to R60: FC, RS and the word they make, and the two
writes of the pulse as one condition on the slot. -/

namespace Sys2Proof.EdgeMeasures

open Sys2Proof Sys2Proof.Machine Sys2Proof.Claims Sys2Proof.CommandOrder

theorem edgeRs_eq_decide (b : Block) (ts : Word) :
    b.edgeRs ts =
      decide (b.syncTrusted = false ∧ 5000 < (ts - b.tLast).toNat ∧ (ts - b.tLast).toNat < 20000) :=
  Bool.eq_iff_iff.2 ((edgeRs_iff b ts).trans decide_eq_true_iff.symm)

/-- FC is bit 0 and RS bit 1 of the response (R55). -/
theorem edgeResponse_eq_add (fc rs : Bool) :
    edgeResponse fc rs = (if rs = true then 2 else 0) + (if fc = true then 1 else 0) := by
  cases fc <;> cases rs <;> rfl

/-- Steps 2 and 4 write the same pulse, so their order does not show in the slots (R57, R59). -/
theorem edge_slot_eq_ite (b : Block) (ts : Word) (i : Slot) :
    (b.edge ts).slot i =
      if i = b.nextIdx ∨ (b.edgeRs ts = true ∧ i = 0) then b.pulse ts else b.slot i := by
  rw [Block.edge_slot]
  by_cases hresync : b.edgeRs ts = true ∧ i = 0
  · rw [if_pos hresync, if_pos (.inr hresync)]
  · simp only [hresync, or_false, if_false]

/-- Settles O14: the statement's pulse, advanced index, FC and RS are those of the model. -/
theorem edgeMeasuresStoresAndResyncs : Obligations.EdgeMeasuresStoresAndResyncs := by
  intro ts s pulse k fc rs hpulse hk hfc hrs
  replace hpulse : pulse = s.block.pulse ts := hpulse
  replace hk : k = s.block.nextIdx := hk
  replace hfc : fc = s.block.edgeFc := by rw [hfc, hk]; rfl
  replace hrs : rs = s.block.edgeRs ts := by rw [hrs, hpulse, edgeRs_eq_decide]; rfl
  subst hpulse hk hfc hrs
  obtain ⟨hmin, hmax, hcal, hstart, hraw, haxis, hbutton⟩ := s.block.edge_unwritten ts
  exact ⟨_, rfl, edge_slot_eq_ite s.block ts, s.block.edge_idx ts, s.block.edge_tLast ts,
    s.block.edge_syncTrusted ts, s.block.edge_frameDone ts, ⟨hmin, hmax⟩, ⟨hraw, haxis, hbutton⟩,
    hcal, hstart, edgeResponse_eq_add _ _, rfl, rfl, rfl⟩

end Sys2Proof.EdgeMeasures

/-! The Frame Synchronizer (41_frame_sync.md R63 to R66). INSYNC answers the slot-0 test. A resynchronization
puts a pause into slot 0 and IDX at 0, so the six edges behind it fill slots 1 to 6 and none of them writes
slot 0; while the pause is there, every POLL's slot check passes (`HoldsPause`, kept by every command). A
POLL whose slot check fails neither samples nor forwards, which leaves it CALDONE and PRESENT to answer. -/

namespace Sys2Proof.FrameSync

open Sys2Proof Sys2Proof.Machine Sys2Proof.Claims Sys2Proof.CommandOrder

variable {b : Block} {s t u : State} {p ts : Word} {k : Nat}

/-! INSYNC (R63, R64). -/

theorem boolResponse_eq_ite (v : Bool) : boolResponse v = if v = true then 1 else 0 := by
  cases v <;> rfl

theorem exec_insync (s : State) :
    exec .insync s = .next (s.answer (if InSync s.block then 1 else 0)) := by
  simp only [InSync, ← Block.frameInSync_iff, ← boolResponse_eq_ite]
  rfl

/-- Settles O18. -/
theorem insyncAnswersTheSlotZeroTest : Obligations.InsyncAnswersTheSlotZeroTest := fun s arg =>
  ⟨CommandWord.decode_opcode_append .insync arg (.inl rfl), exec_insync s⟩

/-! The frame behind a resynchronization (R66). -/

/-- The commands that `Obligations.ResyncHoldsForTheWholeFrame` counts. -/
def isEdge : Instr → Bool
  | .edge _ => true
  | _ => false

/-- How many EDGEs a run of commands has. -/
def edgeCount (is : List Instr) : Nat :=
  (is.filter isEdge).length

@[simp] theorem edgeCount_cons_edge (ts : Word) (is : List Instr) :
    edgeCount (.edge ts :: is) = edgeCount is + 1 := rfl

theorem edgeCount_le_cons (i : Instr) (is : List Instr) : edgeCount is ≤ edgeCount (i :: is) :=
  ((List.sublist_cons_self i is).filter isEdge).length_le

/-- The block trusts the frame order, slot 0 holds the pulse `p`, which the slot validator passes, and `k`
more edges reach slot 6 at most. -/
structure HoldsPause (p : Word) (k : Nat) (b : Block) : Prop where
  trusted : b.syncTrusted = true
  slot_zero : b.slot 0 = p
  inSync : InSync b
  room : b.idx.val + k ≤ 6

theorem HoldsPause.mono {j : Nat} (h : HoldsPause p k b) (hj : j ≤ k) : HoldsPause p j b :=
  { h with room := (Nat.add_le_add_left hj _).trans h.room }

/-- A resynchronizing EDGE leaves room for six more (40_edge_capture.md R59). -/
theorem edge_holdsPause (hrs : b.edgeRs ts = true) (hk : k ≤ 6) :
    HoldsPause (ts - b.tLast) k (b.edge ts) := by
  obtain ⟨htrust, hsync⟩ := edge_trusted_inSync hrs
  exact ⟨htrust, by simp [hrs, Block.pulse], hsync, by simpa [hrs] using hk⟩

/-- An edge with room left advances IDX past 0 and stores there, not in slot 0 (40_edge_capture.md R57). -/
theorem HoldsPause.edge (h : HoldsPause p (k + 1) b) (ts : Word) : HoldsPause p k (b.edge ts) := by
  have hroom := h.room
  have hnext : b.nextIdx.val = b.idx.val + 1 := by
    rw [PulseLines.nextIdx_val]
    omega
  have hrs : b.edgeRs ts = false := PulseLines.edgeRs_of_trusted h.trusted ts
  have hne : ¬(0 : Slot) = b.nextIdx := by
    rw [Fin.ext_iff, hnext]
    exact (Nat.succ_ne_zero _).symm
  have hslot : (b.edge ts).slot 0 = b.slot 0 := by simp [hrs, hne]
  refine ⟨by simp [h.trusted], hslot.trans h.slot_zero, by rw [InSync, hslot]; exact h.inSync, ?_⟩
  simp only [Block.edge_idx, hrs, hnext, Bool.false_eq_true, if_false]
  omega

/-- POLL writes neither FRAME nor IDX, and its slot check passes (R65). -/
theorem HoldsPause.poll (h : HoldsPause p k b) (ts : Word) : HoldsPause p k (b.poll ts) := by
  obtain ⟨hframe, hidx, -⟩ := b.poll_unwritten ts
  have hslot := b.slot_congr _ hframe 0
  exact ⟨by simp [h.trusted, b.frameInSync_iff.2 h.inSync], hslot.trans h.slot_zero,
    by rw [InSync, hslot]; exact h.inSync, by rw [hidx]; exact h.room⟩

/-- The first command of a run uses up its own edge. -/
theorem exec_holdsPause {i : Instr} {is : List Instr} (h : exec i s = .next t)
    (hs : HoldsPause p (edgeCount (i :: is)) s.block) : HoldsPause p (edgeCount is) t.block := by
  obtain ⟨ts, rfl, hb⟩ | ⟨ts, -, hb⟩ | ⟨-, hb⟩ := StateRules.exec_block h <;> rw [hb]
  · exact hs.edge ts
  · exact (hs.poll ts).mono (edgeCount_le_cons _ _)
  · exact hs.mono (edgeCount_le_cons _ _)

theorem execList_holdsPause (is : List Instr) (h : execList is s = .next u)
    (hs : HoldsPause p (edgeCount is) s.block) : HoldsPause p 0 u.block := by
  induction is generalizing s with
  | nil =>
    cases h
    exact hs
  | cons i is ih =>
    obtain ⟨t, ht, hu⟩ := execList_cons_next h
    exact ih hu (exec_holdsPause ht hs)

/-- Settles O15. -/
theorem resyncHoldsForTheWholeFrame : Obligations.ResyncHoldsForTheWholeFrame := by
  intro ts s t u is huntrusted hlo hhi ht hedges hu
  have hrs := (edgeRs_iff s.block ts).2 ⟨huntrusted, hlo, hhi⟩
  cases ht
  have hend := execList_holdsPause is hu (edge_holdsPause (k := edgeCount is) hrs hedges)
  exact ⟨hend.slot_zero, hend.trusted, _, exec_insync u, if_pos hend.inSync⟩

/-! What a POLL writes and answers outside its work (R65, 46_poll.md R90, R95). -/

/-- R90: a POLL that does not sample leaves the bounds. -/
theorem poll_bounds_of_not_sampled (h : b.pollSampled ts = false) :
    (b.poll ts).cmin = b.cmin ∧ (b.poll ts).cmax = b.cmax :=
  ⟨b.cmin_eq_of_minOf _ fun c => by simp [h], b.cmax_eq_of_maxOf _ fun c => by simp [h]⟩

/-- R90: a POLL that does not forward leaves LAST_RAW, AXIS and BUTTON. -/
theorem poll_outputs_of_not_fwd (h : b.pollFwd ts = false) :
    (b.poll ts).lastRaw = b.lastRaw ∧ (b.poll ts).axis = b.axis ∧ (b.poll ts).button = b.button :=
  ⟨b.lastRaw_eq_of_rawOf _ fun a => by simp [h], b.axis_eq_of_axisOf _ fun a => by simp [h],
    b.button_eq_of_buttonOf _ fun j => by simp [h]⟩

theorem poll_calState_eq_calAfter (b : Block) (ts : Word) : (b.poll ts).calState = calAfter b ts := by
  simp only [Block.poll_calState, Block.expires_iff]
  rfl

/-- What POLL leaves alone in every case. -/
theorem exec_poll_keeps (h : exec (.poll ts) s = .next t) : PollKeeps s t := by
  cases h
  obtain ⟨hframe, hidx, hlast, hstart⟩ := s.block.poll_unwritten ts
  exact ⟨hframe, hidx, hlast, hstart, rfl, rfl⟩

theorem calDone_eq_ite (b : Block) (ts : Word) :
    calDone b ts = if b.expires ts = true then 0x100 else 0 := by
  simp only [Block.expires_iff]
  rfl

/-- The layout of R95 with UPD, FWD and SAMPLED 0: CALDONE is bit 8, INSYNC bit 1, PRESENT bit 0. -/
theorem pollResponse_eq_add (caldone insync present : Bool) :
    pollResponse caldone 0 false false insync present =
      (if caldone = true then 0x100 else 0) + (if insync = true then 2 else 0) +
        (if present = true then 1 else 0) := by
  cases caldone <;> cases insync <;> cases present <;> rfl

/-- A POLL that neither samples nor forwards answers CALDONE, INSYNC and PRESENT (R95). -/
theorem pollWord_of_no_work (hs : b.pollSampled ts = false) (hf : b.pollFwd ts = false) :
    b.pollWord ts = calDone b ts + (if b.pollInsync ts = true then 2 else 0) +
      (if b.signalPresent ts = true then 1 else 0) := by
  have hupd : b.pollUpd ts = 0 := by simp [Block.pollUpd, hf]
  rw [Block.pollWord, b.pollWork_expires ts, hupd, hs, hf, pollResponse_eq_add, calDone_eq_ite]

/-- Settles O22: out of sync, a POLL neither samples nor forwards. -/
theorem pollOutOfSyncWithdrawsTrust : Obligations.PollOutOfSyncWithdrawsTrust := by
  intro s ts hpresent hout
  have hsignal : s.block.signalPresent ts = true := (s.block.signalPresent_iff ts).2 hpresent
  have hslot : s.block.frameInSync = false :=
    Bool.eq_false_iff.2 (mt s.block.frameInSync_iff.1 hout)
  have hinsync : s.block.pollInsync ts = false := by simp [Block.pollInsync, hslot]
  have hsampled : s.block.pollSampled ts = false := by simp [Block.pollSampled, hinsync]
  have hfwd : s.block.pollFwd ts = false := by simp [Block.pollFwd, hinsync]
  refine ⟨_, rfl, exec_poll_keeps rfl, poll_bounds_of_not_sampled hsampled,
    poll_outputs_of_not_fwd hfwd, ?_, s.block.poll_frameDone ts, poll_calState_eq_calAfter s.block ts,
    ?_, rfl⟩
  · simp [hsignal, hslot]
  · rw [State.respond_rsp, pollWord_of_no_work hsampled hfwd, hinsync, hsignal]
    simp

end Sys2Proof.FrameSync

/-! The Signal Health Monitor (42_signal_health.md R67 to R70). SIGP and PRESENT of a POLL give one test,
which an edge makes pass because it writes T_LAST. Without the signal a POLL does not read the frame, so it
neither checks slot 0 nor samples nor forwards. -/

namespace Sys2Proof.SignalHealth

open Sys2Proof Sys2Proof.Machine Sys2Proof.Claims Sys2Proof.FrameSync

variable {b : Block} {ts now : Word}

/-! SIGP (R67, R68). -/

theorem exec_sigp (ts : Word) (s : State) :
    exec (.sigp ts) s = .next (s.answer (if Present s.block ts then 1 else 0)) := by
  simp only [Present, ← Block.signalPresent_iff, ← boolResponse_eq_ite]
  rfl

/-- Settles O19: absent, in the statement's order, is not present. -/
theorem sigpAnswersTheStalenessTest : Obligations.SigpAnswersTheStalenessTest := by
  intro s ts
  refine ⟨CommandWord.decode_opcode_append (.sigp ts) ts (.inr rfl), ?_⟩
  simp only [exec_sigp, Present, ← Nat.not_lt, ite_not]
  rfl

/-! The signal after an edge (R70). -/

theorem present_edge (h : (now - ts).toNat ≤ 250000) : Present (b.edge ts) now := by
  rwa [Present, Block.edge_tLast]

/-- PRESENT is bit 0 of POLL's response (46_poll.md R95). -/
theorem pollWord_getLsbD_zero (b : Block) (ts : Word) :
    (b.pollWord ts).getLsbD 0 = b.signalPresent ts := by
  rw [Block.pollWord, pollResponse, zext32, BitVec.getLsbD_setWidth, BitVec.getLsbD_append]
  simp [bit]

/-- Settles O20: T_LAST is the time of the edge, so the elapsed time of both commands is `now - ts`. -/
theorem edgeBringsTheSignalBack : Obligations.EdgeBringsTheSignalBack := by
  intro s t ts now ht hnow
  cases ht
  have hpresent : Present (s.block.edge ts) now := present_edge hnow
  refine ⟨⟨_, exec_sigp now _, if_pos hpresent⟩, _, rfl, ?_⟩
  exact (pollWord_getLsbD_zero _ now).trans ((Block.signalPresent_iff _ now).2 hpresent)

/-! A POLL without the signal (R69). -/

/-- R69: without the signal INSYNC is 0, so a POLL neither samples nor forwards. -/
theorem poll_bits_of_absent (h : b.signalPresent ts = false) :
    b.pollInsync ts = false ∧ b.pollSampled ts = false ∧ b.pollFwd ts = false := by
  have hinsync : b.pollInsync ts = false := by simp [Block.pollInsync, h]
  exact ⟨hinsync, by simp [Block.pollSampled, hinsync], by simp [Block.pollFwd, hinsync]⟩

/-- R69: without the signal the slot check is not done. -/
theorem poll_syncTrusted_of_absent (h : b.signalPresent ts = false) :
    (b.poll ts).syncTrusted = b.syncTrusted := by
  simp [h]

/-- R69: without the signal a POLL answers CALDONE alone. -/
theorem pollWord_of_absent (h : b.signalPresent ts = false) : b.pollWord ts = calDone b ts := by
  obtain ⟨hinsync, hsampled, hfwd⟩ := poll_bits_of_absent h
  rw [pollWord_of_no_work hsampled hfwd, hinsync, h]
  simp

/-- Settles O21. -/
theorem pollWithoutSignalHoldsTrustBoundsAndOutputs :
    Obligations.PollWithoutSignalHoldsTrustBoundsAndOutputs := by
  intro s ts hout
  have habsent : s.block.signalPresent ts = false :=
    Bool.eq_false_iff.2 (mt (s.block.signalPresent_iff ts).1 hout)
  obtain ⟨-, hsampled, hfwd⟩ := poll_bits_of_absent habsent
  exact ⟨_, rfl, exec_poll_keeps rfl, poll_bounds_of_not_sampled hsampled, poll_outputs_of_not_fwd hfwd,
    poll_syncTrusted_of_absent habsent, s.block.poll_frameDone ts, poll_calState_eq_calAfter s.block ts,
    pollWord_of_absent habsent, rfl⟩

end Sys2Proof.SignalHealth

/-! The Calibration Engine (43_calibration.md R71 to R77). A loop over channels is determined by the
channels it lists (`recordChannels_congr`). A POLL that samples moves each bound by R71's two tests, and every
POLL decides the end of the window by `expires`, which CAL_STATE and bit 8 of the response then show. Over a
run, what one command may do to the bounds (`StateRules.exec_mayBecome`) composes: the bounds widen, and
once Calibrated they stay. -/

namespace Sys2Proof.Calibration

open Sys2Proof Sys2Proof.Machine Sys2Proof.Claims Sys2Proof.FrameSync Sys2Proof.StateRules

variable {b b' b'' : Block} {s t : State} {i : Instr} {is : List Instr} {ts : Word}

/-! The loop over the channels (R71). -/

/-- What two recordings make of one block is equal when its bounds are. -/
theorem eq_of_sameButBounds (h' : b.SameButBounds b') (h'' : b.SameButBounds b'')
    (hmin : b'.cmin = b''.cmin) (hmax : b'.cmax = b''.cmax) : b' = b'' := by
  obtain ⟨⟩ := b'
  obtain ⟨⟩ := b''
  cases h'
  cases h''
  simp_all

/-- Neither the order of the channels nor a repeated channel matters: each listed channel moves once, on
its own registers. -/
theorem recordChannels_congr (b : Block) {cs ds : List Channel} (h : ∀ c, c ∈ cs ↔ c ∈ ds) :
    b.recordChannels cs = b.recordChannels ds := by
  refine eq_of_sameButBounds (b.recordChannels_frame_rule cs) (b.recordChannels_frame_rule ds) ?_ ?_
  · exact Block.cmin_eq_of_minOf _ _ fun c => by simp only [Block.recordChannels_minOf, h]
  · exact Block.cmax_eq_of_maxOf _ _ fun c => by simp only [Block.recordChannels_maxOf, h]

/-- Settles O34: a permutation lists the same channels. -/
theorem calibrationOrderDoesNotMatter : Obligations.CalibrationOrderDoesNotMatter :=
  fun b _ hperm => recordChannels_congr b fun _ => hperm.mem_iff

/-! A POLL that samples (R71, R72). -/

theorem pollInsync_of_present (hpresent : Present b ts) (hsync : InSync b) :
    b.pollInsync ts = true := by
  simp only [Block.pollInsync, Bool.and_eq_true]
  exact ⟨(b.signalPresent_iff ts).2 hpresent, b.frameInSync_iff.2 hsync⟩

/-- The first branch of R71 in a sampling POLL. -/
theorem poll_minOf_of_sampled (hs : b.pollSampled ts = true) (c : Channel) :
    ((b.poll ts).minOf c).toNat =
      if (b.slot (channelSlot c)).toNat < (b.minOf c).toNat ∧
          (b.minOf c).toNat - (b.slot (channelSlot c)).toNat ≤ 200 then
        (b.slot (channelSlot c)).toNat
      else (b.minOf c).toNat := by
  simp only [Block.poll_minOf, hs, true_and, lowersMin_iff, apply_ite BitVec.toNat]

/-- The second branch of R71 in a sampling POLL. -/
theorem poll_maxOf_of_sampled (hs : b.pollSampled ts = true) (c : Channel) :
    ((b.poll ts).maxOf c).toNat =
      if (b.maxOf c).toNat < (b.slot (channelSlot c)).toNat ∧
          (b.slot (channelSlot c)).toNat - (b.maxOf c).toNat ≤ 200 then
        (b.slot (channelSlot c)).toNat
      else (b.maxOf c).toNat := by
  simp only [Block.poll_maxOf, hs, true_and, raisesMax_iff, apply_ite BitVec.toNat]

/-- The layout of 46_poll.md R95 with SAMPLED, INSYNC and PRESENT in bits 2 to 0. -/
theorem pollResponse_sampled (caldone : Bool) :
    pollResponse caldone 0 false true true true = (if caldone = true then 0x100 else 0) + 7 := by
  cases caldone <;> rfl

/-- A sampling POLL answers CALDONE, SAMPLED, INSYNC and PRESENT (46_poll.md R95). -/
theorem pollWord_of_sampled (hs : b.pollSampled ts = true) : b.pollWord ts = calDone b ts + 7 := by
  have hfwd : b.pollFwd ts = false := b.pollFwd_of_pollSampled ts hs
  have hupd : b.pollUpd ts = 0 := by simp [Block.pollUpd, hfwd]
  have hinsync : b.pollInsync ts = true := Bool.and_elim_left (Bool.and_elim_left hs)
  have hsignal : b.signalPresent ts = true := Bool.and_elim_left hinsync
  rw [Block.pollWord, b.pollWork_expires ts, hupd, hfwd, hs, hinsync, hsignal, pollResponse_sampled,
    calDone_eq_ite]

/-- Settles O23. -/
theorem pollRecordsASample : Obligations.PollRecordsASample := by
  intro s ts hpresent hsync hcal hdone
  have hsampled : s.block.pollSampled ts = true := by
    simp [Block.pollSampled, pollInsync_of_present hpresent hsync, hcal, hdone]
  refine ⟨_, rfl, exec_poll_keeps rfl,
    poll_outputs_of_not_fwd (s.block.pollFwd_of_pollSampled ts hsampled), ?_, ?_,
    s.block.poll_frameDone ts, poll_calState_eq_calAfter s.block ts, pollWord_of_sampled hsampled, rfl⟩
  · rintro c i sample lo hi hi' rfl rfl rfl
    obtain rfl : i = channelSlot c := Fin.ext hi'
    exact ⟨poll_minOf_of_sampled hsampled c, poll_maxOf_of_sampled hsampled c⟩
  · simp [s.block.frameInSync_iff.2 hsync]

/-! The end of the window (R75). -/

/-- CALDONE is bit 8 of POLL's response (46_poll.md R95). -/
theorem pollWord_getLsbD_eight (b : Block) (ts : Word) :
    (b.pollWord ts).getLsbD 8 = b.expires ts := by
  simp only [Block.pollWord, b.pollWork_expires ts, pollResponse, zext32, BitVec.getLsbD_setWidth,
    BitVec.getLsbD_append]
  simp [bit]

theorem expires_eq_decide (b : Block) (now : Word) : b.expires now = decide (WindowOver b now) :=
  Bool.eq_iff_iff.2 ((b.expires_iff now).trans decide_eq_true_iff.symm)

/-- Settles O26. -/
theorem windowEndsAtThirtySeconds : Obligations.WindowEndsAtThirtySeconds := by
  refine ⟨fun b now => ?_, fun s ts => ⟨_, rfl, poll_calState_eq_calAfter s.block ts, ?_⟩⟩
  · simp only [← b.expires_iff now]
    rfl
  · exact (pollWord_getLsbD_eight s.block ts).trans (expires_eq_decide s.block ts)

/-! Runs of commands (R76, R77). -/

/-- The range of a channel has kept its bounds or moved them outwards (R77). -/
abbrev Widens (c : Channel) (s t : State) : Prop :=
  (t.block.minOf c).toNat ≤ (s.block.minOf c).toNat ∧
    (s.block.maxOf c).toNat ≤ (t.block.maxOf c).toNat

theorem exec_widens (h : exec i s = .next t) (c : Channel) : Widens c s t := by
  obtain ⟨hwiden, -⟩ := exec_mayBecome h
  exact hwiden c

theorem execList_widens (h : execList is s = .next t) (c : Channel) : Widens c s t := by
  refine execList_induction (Widens c) (fun _ => ⟨le_rfl, le_rfl⟩) ?_ is s t h
  rintro i s t u ht ⟨hmin', hmax'⟩
  obtain ⟨hmin, hmax⟩ := exec_widens ht c
  exact ⟨hmin'.trans hmin, hmax.trans hmax'⟩

/-- Settles O51: the bounds move outwards from the centre that they enclose. -/
theorem calibrationRangeOnlyWidens : Obligations.CalibrationRangeOnlyWidens := by
  intro is s t hinv ht c
  obtain ⟨hmin, hmax⟩ := execList_widens ht c
  obtain ⟨hlo, hhi⟩ := hinv.1 c
  exact ⟨hmin, hmax, tsub_le_tsub hmax hmin, hmin.trans (hlo.trans (hhi.trans hmax))⟩

/-- R76: no run writes CAL_START. -/
theorem execList_calStart (h : execList is s = .next t) : t.block.calStart = s.block.calStart := by
  refine execList_induction (fun s t => t.block.calStart = s.block.calStart) (fun _ => rfl) ?_ is s t h
  intro i s t u ht hrest
  obtain ⟨-, -, -, hstart⟩ := eachElementHasItsWriters i s t ht
  exact hrest.trans hstart

/-- R76: Calibrated lasts along a run, and the bounds are constants in it. -/
theorem execList_of_calibrated (hcal : s.block.calState = .calibrated) (h : execList is s = .next t) :
    t.block.calState = .calibrated ∧ SameBounds s t := by
  induction is generalizing s with
  | nil =>
    cases h
    exact ⟨hcal, rfl, rfl⟩
  | cons i is ih =>
    obtain ⟨u, hu, hrest⟩ := execList_cons_next h
    obtain ⟨-, hkeeps, hbounds, -⟩ := exec_mayBecome hu
    obtain ⟨hmin, hmax⟩ := hbounds (by simp [hcal])
    obtain ⟨hend, hmin', hmax'⟩ := ih (hkeeps hcal) hrest
    exact ⟨hend, hmin'.trans hmin, hmax'.trans hmax⟩

/-- R75, R76: a command writes CAL_STATE only as a POLL that ends the window. -/
theorem exec_calState_windowOver (h : exec i s = .next t) :
    t.block.calState = s.block.calState ∨
      (t.block.calState = .calibrated ∧ ∃ ts, i = .poll ts ∧ WindowOver s.block ts) := by
  obtain ⟨ts, -, hb⟩ | ⟨ts, hi, hb⟩ | ⟨-, hb⟩ := exec_block h <;> rw [hb]
  · obtain ⟨-, -, hcal, -⟩ := s.block.edge_unwritten ts
    exact .inl hcal
  · rw [poll_calState_eq_calAfter, calAfter]
    split
    next hover => exact .inr ⟨rfl, ts, hi, hover⟩
    next => exact .inl rfl
  · exact .inl rfl

/-- Settles O52: a bound that has left the centre has only moved further from it. -/
theorem calibratedIsForEver : Obligations.CalibratedIsForEver := by
  refine ⟨fun is s t hcal ht => ?_, fun is s t _ ht => ⟨execList_calStart ht, fun c => ?_⟩,
    fun i s t ht => exec_calState_windowOver ht⟩
  · obtain ⟨hcal', hbounds⟩ := execList_of_calibrated hcal ht
    exact ⟨hcal', hbounds, execList_calStart ht⟩
  · obtain ⟨hmin, hmax⟩ := execList_widens ht c
    exact ⟨hmin.trans_lt, fun hlt => hlt.trans_le hmax⟩

end Sys2Proof.Calibration

/-! The Channel Value Mapper (44_mapper.md R78 to R84). `mapAxisNat` has an equation per case of R79 to R81;
between the bounds it is a quotient, so that rounding and monotonicity are facts of division. MAPCH reads
the channel number as an axis, as a button or as neither. -/

namespace Sys2Proof.Mapper

open Sys2Proof Sys2Proof.Machine Sys2Proof.Claims

section

variable {p q lo hi : Nat}

/-! The interpolation on the integers (R79 to R81). -/

theorem mapAxisNat_of_degenerate (p : Nat) (h : hi ≤ lo) : mapAxisNat p lo hi = 128 :=
  if_pos h

theorem mapAxisNat_of_le_min (h : lo < hi) (hp : p ≤ lo) : mapAxisNat p lo hi = 0 := by
  rw [mapAxisNat, if_neg h.not_ge, if_pos hp]

theorem mapAxisNat_of_max_le (h : lo < hi) (hp : hi ≤ p) : mapAxisNat p lo hi = 255 := by
  rw [mapAxisNat, if_neg h.not_ge, if_neg (h.trans_le hp).not_ge, if_pos hp]

theorem mapAxisNat_of_between (hlo : lo < p) (hhi : p < hi) :
    mapAxisNat p lo hi = (2 * 255 * (p - lo) + (hi - lo)) / (2 * (hi - lo)) := by
  rw [mapAxisNat, if_neg (hlo.trans hhi).not_ge, if_neg hlo.not_ge, if_neg hhi.not_ge]

/-- Below the minimum and above the maximum the value is an end of 0..255; between two pulses inside the
bounds only the dividend grows. -/
theorem mapAxisNat_mono (h : p ≤ q) : mapAxisNat p lo hi ≤ mapAxisNat q lo hi := by
  rcases le_or_gt hi lo with hdeg | hrange
  · rw [mapAxisNat_of_degenerate p hdeg, mapAxisNat_of_degenerate q hdeg]
  rcases le_or_gt p lo with hp | hp
  · rw [mapAxisNat_of_le_min hrange hp]
    exact Nat.zero_le _
  rcases le_or_gt hi q with hq | hq
  · rw [mapAxisNat_of_max_le hrange hq]
    exact mapAxisNat_le p lo hi
  · rw [mapAxisNat_of_between hp (h.trans_lt hq), mapAxisNat_of_between (hp.trans_le h) hq]
    gcongr

end

/-- Settles O31: the equations of `mapAxisNat` at eight bits. -/
theorem mapperGuardsAndSaturates : Obligations.MapperGuardsAndSaturates := by
  refine fun p lo hi => ⟨fun h => ?_, fun h hp => ?_, fun h hp => ?_⟩
  · exact congrArg (BitVec.ofNat 8) (mapAxisNat_of_degenerate p.toNat h)
  · exact congrArg (BitVec.ofNat 8) (mapAxisNat_of_le_min h hp)
  · exact congrArg (BitVec.ofNat 8) (mapAxisNat_of_max_le h hp)

/-- Settles O32: the value is the floor of a quotient by 2 * w. -/
theorem interpolationRoundsHalfUp : Obligations.InterpolationRoundsHalfUp := by
  rintro p lo hi w v hlo hhi rfl rfl
  rw [mapAxis_toNat, mapAxisNat_of_between hlo hhi]
  exact ⟨Nat.mul_div_le _ _, Nat.lt_mul_div_succ _ (by omega)⟩

/-- Settles O33. -/
theorem interpolationIsMonotone : Obligations.InterpolationIsMonotone := by
  intro p q lo hi h
  rw [mapAxis_toNat, mapAxis_toNat]
  exact mapAxisNat_mono h

/-! The channel numbers (20_memory.md R30, R31). -/

theorem eq_axisNumber {idx : Word} {a : Axis} (h : idx.toNat = a.val + 1) : idx = axisNumber a :=
  BitVec.eq_of_toNat_eq
    (h.trans (Nat.mod_eq_of_lt ((Nat.succ_lt_succ a.isLt).trans (by decide))).symm)

theorem eq_buttonNumber {idx : Word} {j : Button} (h : idx.toNat = j.val + 5) : idx = buttonNumber j :=
  BitVec.eq_of_toNat_eq
    (h.trans (Nat.mod_eq_of_lt ((Nat.add_lt_add_right j.isLt 5).trans (by decide))).symm)

/-- A channel 1..4 is an axis (00_scope.md R4). -/
theorem exists_axisChannel {c : Channel} (h : c.val < 4) : ∃ a, c = axisChannel a :=
  ⟨⟨c.val, h⟩, rfl⟩

/-- A slot 5..6 is a button's (00_scope.md R4). -/
theorem exists_buttonSlot {i : Slot} (h : 5 ≤ i.val) : ∃ j, i = buttonSlot j :=
  ⟨⟨i.val - 5, Nat.sub_lt_right_of_lt_add h i.isLt⟩, Fin.ext (Nat.sub_add_cancel h).symm⟩

theorem mapChannel_of_outside (b : Block) {ch : Word} (h : ch.toNat = 0 ∨ 7 ≤ ch.toNat) :
    b.mapChannel ch = 0 := by
  rw [Block.mapChannel, axisIndex_of_not_mem ch (by omega), buttonIndex_of_not_mem ch (by omega)]

/-! MAPCH (R84). -/

theorem exec_mapch (idx : Word) (s : State) :
    exec (.mapch idx) s =
      .next { s with rsp := zext32 (s.block.mapChannel idx), commit := false } := rfl

/-- The mapping of an axis is the formula of the statement, with nothing lost in eight bits. -/
theorem zext32_mapAxis (p lo hi : Word) :
    zext32 (mapAxis p lo hi) = BitVec.ofNat 32 (interpolate p.toNat lo.toNat hi.toNat) := by
  apply BitVec.eq_of_toNat_eq
  rw [zext32, BitVec.toNat_setWidth, mapAxis_toNat, BitVec.toNat_ofNat]
  rfl

theorem zext32_mapButton (p : Word) : zext32 (mapButton p) = if 1500 < p.toNat then 1 else 0 := by
  unfold mapButton
  split <;> rfl

/-- Settles O30: the index is the number of an axis, the number of a button, or neither. -/
theorem mapchAnswersTheMapping : Obligations.MapchAnswersTheMapping := by
  refine fun s idx => ⟨CommandWord.decode_encode (.mapch idx), fun c i hic hidx hi => ?_,
    fun i hidx hi => ?_, fun hout => ?_⟩ <;> rw [exec_mapch]
  · obtain ⟨a, rfl⟩ := exists_axisChannel (c := c) (by omega)
    obtain rfl : i = channelSlot (axisChannel a) := Fin.ext hic
    rw [eq_axisNumber hidx, Block.mapChannel_axisNumber, Block.mapAxisChannel, zext32_mapAxis]
  · obtain ⟨j, rfl⟩ := exists_buttonSlot hi
    rw [eq_buttonNumber hidx, Block.mapChannel_buttonNumber, zext32_mapButton]
  · rw [mapChannel_of_outside s.block hout]
    rfl

end Sys2Proof.Mapper

/-! The Output Filter (45_output_filter.md R85 to R87). A turn of the forward pass, over an axis or over a
button, writes the outputs of its own channel by what it reads of that channel, so that two turns commute.
A POLL once Calibrated is one forward pass, and its response is UPD over FWD, INSYNC and PRESENT. -/

namespace Sys2Proof.OutputFilter

open Sys2Proof Sys2Proof.Machine Sys2Proof.Claims Sys2Proof.FrameSync Sys2Proof.StateRules

variable {b b' b'' : Block} {ts : Word}

/-! One turn of the pass (R87). -/

/-- A turn of the forward pass: an axis is filtered, a button forwarded. -/
def forwardChannel (b : Block) : Axis ⊕ Button → Block
  | .inl a => b.filterAxis a
  | .inr j => b.forwardButton j

theorem forwardPass_eq_foldl (b : Block) :
    b.forwardPass =
      [.inl 0, .inl 1, .inl 2, .inl 3, .inr 0, .inr 1].foldl forwardChannel b := by
  simp only [Block.forwardPass, Block.filterAxes, Block.forwardButtons, allAxes, List.foldl,
    forwardChannel]

theorem forwardChannel_frame_rule (b : Block) (c : Axis ⊕ Button) :
    b.SameButOutputs (forwardChannel b c) := by
  cases c with
  | inl a => exact b.filterAxis_frame_rule a
  | inr j => constructor <;> rfl

theorem forwardChannel_slot (b : Block) (c : Axis ⊕ Button) (i : Slot) :
    (forwardChannel b c).slot i = b.slot i :=
  Block.slot_congr _ _ (forwardChannel_frame_rule b c).frame i

theorem forwardChannel_mapChannel (b : Block) (c : Axis ⊕ Button) (ch : Word) :
    (forwardChannel b c).mapChannel ch = b.mapChannel ch :=
  (forwardChannel_frame_rule b c).mapChannel ch

theorem forwardChannel_rawOf (b : Block) (c : Axis ⊕ Button) (d : Axis) :
    (forwardChannel b c).rawOf d =
      if c = .inl d ∧ b.axisMoved d = true then b.slot (channelSlot (axisChannel d)) else b.rawOf d := by
  cases c with
  | inl a => simp [forwardChannel]
  | inr j => simp [forwardChannel, Block.forwardButton]

theorem forwardChannel_axisOf (b : Block) (c : Axis ⊕ Button) (d : Axis) :
    (forwardChannel b c).axisOf d =
      if c = .inl d ∧ b.axisMoved d = true then b.mapChannel (axisNumber d) else b.axisOf d := by
  cases c with
  | inl a => simp [forwardChannel]
  | inr j => simp [forwardChannel, Block.forwardButton]

theorem forwardChannel_buttonOf (b : Block) (c : Axis ⊕ Button) (k : Button) :
    (forwardChannel b c).buttonOf k =
      if c = .inr k then decide (b.mapChannel (buttonNumber k) = 0) else b.buttonOf k := by
  cases c with
  | inl a =>
    rw [if_neg Sum.inl_ne_inr]
    exact Block.buttonOf_congr _ _ (b.filterAxis_button a) k
  | inr j =>
    rcases eq_or_ne j k with rfl | h
    · simp [forwardChannel, Block.forwardButton]
    · simp [forwardChannel, Block.forwardButton, h]

/-- The turn of an axis leaves that axis at its snapshot; any other turn leaves its test as it is. -/
theorem forwardChannel_axisMoved (b : Block) (c : Axis ⊕ Button) (d : Axis) :
    (forwardChannel b c).axisMoved d = if c = .inl d then false else b.axisMoved d := by
  cases c with
  | inl a => simp [forwardChannel, b.filterAxis_axisMoved]
  | inr j => rfl

/-! The order of the turns (R87). -/

/-- What two parts of a pass make of one block is equal when its outputs are. -/
theorem eq_of_sameButOutputs (h' : b.SameButOutputs b') (h'' : b.SameButOutputs b'')
    (hraw : b'.lastRaw = b''.lastRaw) (haxis : b'.axis = b''.axis) (hbutton : b'.button = b''.button) :
    b' = b'' := by
  obtain ⟨⟩ := b'
  obtain ⟨⟩ := b''
  cases h'
  cases h''
  simp_all

/-- The turns of two channels write apart, and neither writes what the other reads (R87). -/
theorem forwardChannel_comm (b : Block) (c d : Axis ⊕ Button) :
    forwardChannel (forwardChannel b c) d = forwardChannel (forwardChannel b d) c := by
  rcases eq_or_ne c d with rfl | hne
  · rfl
  refine eq_of_sameButOutputs
    ((forwardChannel_frame_rule b c).trans (forwardChannel_frame_rule _ d))
    ((forwardChannel_frame_rule b d).trans (forwardChannel_frame_rule _ c))
    (Block.lastRaw_eq_of_rawOf _ _ fun a => ?_) (Block.axis_eq_of_axisOf _ _ fun a => ?_)
    (Block.button_eq_of_buttonOf _ _ fun k => ?_)
  · simp only [forwardChannel_rawOf, forwardChannel_axisMoved, forwardChannel_slot]
    rcases eq_or_ne c (.inl a) with rfl | hc
    · simp [hne.symm]
    · simp [hc]
  · simp only [forwardChannel_axisOf, forwardChannel_axisMoved, forwardChannel_mapChannel]
    rcases eq_or_ne c (.inl a) with rfl | hc
    · simp [hne.symm]
    · simp [hc]
  · simp only [forwardChannel_buttonOf, forwardChannel_mapChannel]
    rcases eq_or_ne c (.inr k) with rfl | hc
    · simp [hne.symm]
    · simp [hc]

/-- Settles O35: turns that commute may be permuted. -/
theorem forwardOrderDoesNotMatter : Obligations.ForwardOrderDoesNotMatter := fun b cs hperm =>
  calc
    cs.foldl forwardChannel b = _ :=
      hperm.foldl_eq' (fun c _ d _ b => forwardChannel_comm b c d) b
    _ = b.forwardPass := (forwardPass_eq_foldl b).symm

/-! A POLL that forwards (R85 to R87, 46_poll.md R95). -/

theorem pollFwd_of_calibrated (hpresent : Present b ts) (hsync : InSync b)
    (hcal : b.calState = .calibrated) : b.pollFwd ts = true := by
  simp [Block.pollFwd, Calibration.pollInsync_of_present hpresent hsync, hcal]

theorem expires_of_calibrated (hcal : b.calState = .calibrated) : b.expires ts = false := by
  simp [Block.expires, hcal]

/-- The layout of 46_poll.md R95 with UPD in bits 7 to 4 over FWD, INSYNC and PRESENT. -/
theorem pollResponse_forwarded (upd : BitVec 4) :
    pollResponse false upd true false true true = zext32 (upd ++ 0xB#4) := by
  revert upd
  decide

/-- A forwarding POLL answers UPD, FWD, INSYNC and PRESENT (46_poll.md R95). -/
theorem pollWord_of_forwarded (hfwd : b.pollFwd ts = true) :
    b.pollWord ts = zext32 (b.forwardUpd ++ 0xB#4) := by
  have hcal : b.calState = .calibrated := calState_of_pollFwd hfwd
  have hinsync : b.pollInsync ts = true := Bool.and_elim_left hfwd
  have hsignal : b.signalPresent ts = true := Bool.and_elim_left hinsync
  have hsampled : b.pollSampled ts = false := by simp [Block.pollSampled, hcal]
  rw [Block.pollWord, b.pollWork_expires ts, expires_of_calibrated hcal, b.pollUpd_eq ts, if_pos hfwd,
    hfwd, hsampled, hinsync, hsignal, pollResponse_forwarded]

/-- UPD has the test of axis `a` in its bit `a` (R87). -/
theorem forwardUpd_getLsbD (b : Block) (a : Axis) : b.forwardUpd.getLsbD a.val = b.axisMoved a := by
  simp only [Block.forwardUpd, bit, BitVec.getLsbD_append]
  match a with
  | 0 | 1 | 2 | 3 => simp [Config.nAxis]

/-- The UPD bits of a forwarding POLL (R87, 46_poll.md R95). -/
theorem pollWord_getLsbD_upd (hfwd : b.pollFwd ts = true) (a : Axis) :
    (b.pollWord ts).getLsbD (4 + a.val) = b.axisMoved a := by
  have ha : 4 + a.val < 32 := (Nat.add_lt_add_left a.isLt 4).trans (by decide)
  rw [pollWord_of_forwarded hfwd, zext32, BitVec.getLsbD_setWidth, BitVec.getLsbD_append,
    if_neg (Nat.le_add_right 4 a.val).not_gt, Nat.add_sub_cancel_left, forwardUpd_getLsbD,
    decide_eq_true ha, Bool.true_and]

theorem axisMoved_eq_decide (b : Block) (a : Axis) :
    b.axisMoved a = decide (20 < distance (b.slot (channelSlot (axisChannel a))) (b.rawOf a)) := by
  rw [Block.axisMoved, absdiff_eq]
  rfl

/-- The mapped value of an axis is the formula of the statement. -/
theorem mapAxisChannel_toNat (b : Block) (a : Axis) :
    (b.mapAxisChannel a).toNat =
      interpolate (b.slot (channelSlot (axisChannel a))).toNat (b.minOf (axisChannel a)).toNat
        (b.maxOf (axisChannel a)).toNat :=
  mapAxis_toNat _ _ _

/-- Settles O25: each axis by its own test, which is also its UPD bit. -/
theorem pollForwardsTheOutputs : Obligations.PollForwardsTheOutputs := by
  intro s ts hpresent hsync hcal
  have hfwd := pollFwd_of_calibrated hpresent hsync hcal
  have hword := pollWord_of_forwarded hfwd
  refine ⟨_, rfl, exec_poll_keeps rfl, poll_bounds_of_not_calibrating ts (by simp [hcal]), ?_, ?_, ?_,
    ?_, s.block.poll_frameDone ts, ?_, ?_, ?_, rfl⟩
  · intro a c i hc hi
    obtain rfl : c = axisChannel a := Fin.ext hc
    obtain rfl : i = channelSlot (axisChannel a) := Fin.ext hi
    simp only [State.respond_block, State.respond_rsp, Block.poll_axisOf, Block.poll_rawOf, hfwd,
      true_and, pollWord_getLsbD_upd hfwd, axisMoved_eq_decide, decide_eq_true_eq]
    split
    next hmoved => simp [hmoved, mapAxisChannel_toNat]
    next hrest => simp [hrest]
  · exact (s.block.poll_buttonOf ts 0).trans (if_pos hfwd)
  · exact (s.block.poll_buttonOf ts 1).trans (if_pos hfwd)
  · simp [s.block.frameInSync_iff.2 hsync]
  · simp [hcal]
  · rw [State.respond_rsp, hword, zext32, BitVec.setWidth_setWidth_of_le _ (by decide),
      BitVec.setWidth_append]
    rfl
  · rw [State.respond_rsp, hword]
    exact ResponsePorts.toNat_zext32_lt _

end Sys2Proof.OutputFilter

/-! POLL as a whole (46_poll.md R90 to R97). Each field of the response is one of POLL's conditions, so how
the bits fit together (R95) is how the conditions do. Until Calibrated no command forwards, so along
every run from a reset the outputs are those of the reset (R93). A POLL that repeats another without an
EDGE between finds FRAME_DONE 0 and so records nothing; it changes nothing at all when trust and the window
are settled and a forward pass, if it makes one, finds nothing to move (`poll_eq_self`, R97). -/

namespace Sys2Proof.PollCycle

open Sys2Proof Sys2Proof.Machine Sys2Proof.Claims Sys2Proof.FrameSync Sys2Proof.StateRules

variable {b : Block} {s t : State} {i : Instr} {ts now : Word}

/-! The outputs until Calibrated (R93). -/

theorem pollFwd_of_not_calibrated (h : b.calState ≠ .calibrated) : b.pollFwd ts = false :=
  Bool.eq_false_iff.2 fun hf => h (calState_of_pollFwd hf)

theorem exec_outputs_of_not_calibrated (hcal : s.block.calState ≠ .calibrated)
    (h : exec i s = .next t) : SameOutputs s t := by
  obtain ⟨ts, -, hb⟩ | ⟨ts, -, hb⟩ | ⟨-, hb⟩ := exec_block h <;> rw [SameOutputs, hb]
  · obtain ⟨-, -, -, -, hraw, haxis, hbutton⟩ := s.block.edge_unwritten ts
    exact ⟨hraw, haxis, hbutton⟩
  · exact poll_outputs_of_not_fwd (pollFwd_of_not_calibrated hcal)
  · exact ⟨rfl, rfl, rfl⟩

theorem reset_outputsRest (t0 : Word) : OutputsRest (Block.reset t0) :=
  ⟨by simp, fun _ => ⟨rfl, rfl, rfl⟩⟩

/-- A command that ends in Calibrating began in Calibrating, and so wrote no output. -/
theorem exec_outputsRest (hrest : OutputsRest s.block) (h : exec i s = .next t) :
    OutputsRest t.block := by
  obtain ⟨hidle, hout⟩ := hrest
  obtain hcal | hcal := exec_calState_cases h
  · refine ⟨hcal ▸ hidle, fun hnow => ?_⟩
    have hbefore : s.block.calState = .calibrating := hcal.symm.trans hnow
    obtain ⟨hraw, haxis, hbutton⟩ := exec_outputs_of_not_calibrated (by simp [hbefore]) h
    rw [haxis, hbutton, hraw]
    exact hout hbefore
  · simp [OutputsRest, hcal]

/-- A clock edge keeps what every reset block has and every command keeps. -/
theorem step_keeps_block (P : Block → Prop) (hreset : ∀ t0, P (Block.reset t0))
    (hexec : ∀ i s t, P s.block → exec i s = .next t → P t.block) (hs : P s.block)
    (ht : step s = .next t) : P t.block := by
  obtain ⟨rest, -, hidle⟩ | ⟨t0, rest, -, hrst⟩ | ⟨w, rest, v, -, hrun⟩ := step_cases s
  · cases hidle.symm.trans ht
    exact hs
  · cases hrst.symm.trans ht
    exact hreset t0
  · exact hexec (decode w) (s.accept rest v) t hs (hrun.symm.trans ht)

/-- Settles O53. -/
theorem outputsRestUntilCalibrated : Obligations.OutputsRestUntilCalibrated :=
  ⟨reset_outputsRest, fun _ _ =>
    step_keeps_block OutputsRest reset_outputsRest fun _ _ _ => exec_outputsRest⟩

theorem execList_outputsRest (is : List Instr) (hrest : OutputsRest s.block)
    (h : execList is s = .next t) : OutputsRest t.block :=
  execList_induction (fun s t => OutputsRest s.block → OutputsRest t.block) (fun _ => id)
    (fun _ _ _ _ hi htail hs => htail (exec_outputsRest hs hi)) is s t h hrest

/-- Settles O59. -/
theorem outputsRestOverRunsFromReset : Obligations.OutputsRestOverRunsFromReset := by
  intro is s t t0 hs ht
  obtain ⟨-, hout⟩ := execList_outputsRest is (hs ▸ reset_outputsRest t0) ht
  exact hout

/-! A POLL in sync without work (R90). -/

/-- Idle asks for no work, and Calibrating for none without a completed frame. -/
theorem poll_bits_of_no_work
    (h : b.calState = .idle ∨ (b.calState = .calibrating ∧ b.frameDone = false)) :
    b.pollSampled ts = false ∧ b.pollFwd ts = false := by
  obtain hcal | ⟨hcal, hdone⟩ := h
  · exact ⟨by simp [Block.pollSampled, hcal], pollFwd_of_not_calibrated (by simp [hcal])⟩
  · exact ⟨by simp [Block.pollSampled, hdone], pollFwd_of_not_calibrated (by simp [hcal])⟩

/-- Settles O24. -/
theorem pollWithoutWorkWritesNoBoundsNoOutputs :
    Obligations.PollWithoutWorkWritesNoBoundsNoOutputs := by
  intro s ts hpresent hsync hidle
  obtain ⟨hsampled, hfwd⟩ := poll_bits_of_no_work (ts := ts) hidle
  refine ⟨_, rfl, exec_poll_keeps rfl, poll_bounds_of_not_sampled hsampled,
    poll_outputs_of_not_fwd hfwd, ?_, s.block.poll_frameDone ts, poll_calState_eq_calAfter s.block ts,
    ?_, rfl⟩
  · simp [s.block.frameInSync_iff.2 hsync]
  · rw [State.respond_rsp, pollWord_of_no_work hsampled hfwd,
      if_pos (Calibration.pollInsync_of_present hpresent hsync),
      if_pos ((s.block.signalPresent_iff ts).2 hpresent), add_assoc]
    rfl

/-! The fields of POLL's response (R95). -/

/-- INSYNC, SAMPLED and FWD are bits 1 to 3. -/
theorem pollWord_getLsbD_conditions (b : Block) (ts : Word) :
    (b.pollWord ts).getLsbD 1 = b.pollInsync ts ∧ (b.pollWord ts).getLsbD 2 = b.pollSampled ts ∧
      (b.pollWord ts).getLsbD 3 = b.pollFwd ts := by
  simp only [Block.pollWord, pollResponse, zext32, BitVec.getLsbD_setWidth, BitVec.getLsbD_append]
  simp [bit]

/-- UPD is bits 7 to 4. -/
theorem pollWord_extract_upd (b : Block) (ts : Word) :
    (b.pollWord ts).extractLsb' 4 4 = b.pollUpd ts := by
  ext k hk
  simp only [Block.pollWord, pollResponse, zext32, BitVec.getElem_extractLsb',
    BitVec.getLsbD_setWidth, BitVec.getLsbD_append]
  simp [hk, show 4 + k < 32 by omega]

theorem signalPresent_eq_decide (b : Block) (ts : Word) :
    b.signalPresent ts = decide (Present b ts) :=
  Bool.eq_iff_iff.2 ((b.signalPresent_iff ts).trans decide_eq_true_iff.symm)

theorem signalPresent_of_pollInsync (h : b.pollInsync ts = true) : b.signalPresent ts = true :=
  Bool.and_elim_left h

theorem pollInsync_of_pollSampled (h : b.pollSampled ts = true) : b.pollInsync ts = true :=
  Bool.and_elim_left (Bool.and_elim_left h)

theorem pollInsync_of_pollFwd (h : b.pollFwd ts = true) : b.pollInsync ts = true :=
  Bool.and_elim_left h

theorem pollSampled_of_pollFwd (h : b.pollFwd ts = true) : b.pollSampled ts = false := by
  simp [Block.pollSampled, calState_of_pollFwd h]

/-- Settles O28: the conditions of POLL, each in its bit. -/
theorem pollResponseBitsAreConsistent : Obligations.PollResponseBitsAreConsistent := by
  intro s t ts ht
  cases ht
  obtain ⟨hinsync, hsampled, hfwd⟩ := pollWord_getLsbD_conditions s.block ts
  simp only [State.respond_rsp, SignalHealth.pollWord_getLsbD_zero, hinsync, hsampled, hfwd,
    pollWord_extract_upd]
  exact ⟨signalPresent_eq_decide s.block ts, signalPresent_of_pollInsync,
    fun h => ⟨pollInsync_of_pollSampled h, s.block.pollFwd_of_pollSampled ts h⟩,
    fun h => ⟨pollInsync_of_pollFwd h, pollSampled_of_pollFwd h⟩,
    fun h => by simp [Block.pollUpd, h]⟩

/-! A POLL that changes nothing. -/

/-- A forward pass has nothing to move: every axis is near its snapshot, and every button shows its slot
(45_output_filter.md R85, R86). -/
structure OutputsSettled (b : Block) : Prop where
  axes : ∀ a : Axis, b.axisMoved a = false
  buttons : ∀ j : Button, b.buttonOf j = decide ((b.slot (buttonSlot j)).toNat ≤ 1500)

theorem forwardUpd_of_settled (h : OutputsSettled b) : b.forwardUpd = 0 := by
  simp [Block.forwardUpd, h.axes, bit]

theorem pollUpd_of_settled (h : OutputsSettled b) (ts : Word) : b.pollUpd ts = 0 := by
  rw [Block.pollUpd_eq, forwardUpd_of_settled h, ite_self]

theorem poll_outputs_of_settled (h : OutputsSettled b) (ts : Word) :
    (b.poll ts).lastRaw = b.lastRaw ∧ (b.poll ts).axis = b.axis ∧ (b.poll ts).button = b.button :=
  ⟨b.lastRaw_eq_of_rawOf _ fun a => by simp [h.axes], b.axis_eq_of_axisOf _ fun a => by simp [h.axes],
    b.button_eq_of_buttonOf _ fun j => by simp [h.buttons]⟩

/-- A POLL changes nothing when there is no completed frame to take, no trust to withdraw, no window to end
and nothing for a forward pass to move. -/
theorem poll_eq_self (hdone : b.frameDone = false)
    (htrust : b.syncTrusted = true → b.signalPresent now = true → b.frameInSync = true)
    (hwindow : b.expires now = false) (hfwd : b.pollFwd now = true → OutputsSettled b) :
    b.poll now = b := by
  have hsampled : b.pollSampled now = false := by simp [Block.pollSampled, hdone]
  obtain ⟨hmin, hmax⟩ := poll_bounds_of_not_sampled hsampled
  obtain ⟨hframe, hidx, hlast, hstart⟩ := b.poll_unwritten now
  have hkept : (b.poll now).syncTrusted = b.syncTrusted := by
    rw [Block.poll_syncTrusted, Bool.and_eq_left_iff_imp]
    intro ht
    cases hp : b.signalPresent now
    · rfl
    · exact htrust ht hp
  have hcal : (b.poll now).calState = b.calState := by simp [hwindow]
  have hout : (b.poll now).lastRaw = b.lastRaw ∧ (b.poll now).axis = b.axis ∧
      (b.poll now).button = b.button := by
    cases hf : b.pollFwd now
    · exact poll_outputs_of_not_fwd hf
    · exact poll_outputs_of_settled (hfwd hf) now
  obtain ⟨hraw, haxis, hbutton⟩ := hout
  refine OutputFilter.eq_of_sameButOutputs (b := b) ?_ (by constructor <;> rfl) hraw haxis hbutton
  exact ⟨hframe, hidx, hlast, hkept, (b.poll_frameDone now).trans hdone.symm, hmin, hmax, hcal, hstart⟩

/-! The block behind a POLL (R97). -/

theorem poll_slot (b : Block) (ts : Word) (k : Slot) : (b.poll ts).slot k = b.slot k := by
  obtain ⟨hframe, -⟩ := b.poll_unwritten ts
  exact b.slot_congr _ hframe k

theorem poll_frameInSync (b : Block) (ts : Word) : (b.poll ts).frameInSync = b.frameInSync := by
  rw [Block.frameInSync, poll_slot, Block.frameInSync]

theorem poll_signalPresent (b : Block) (ts now : Word) :
    (b.poll ts).signalPresent now = b.signalPresent now := by
  obtain ⟨-, -, hlast, -⟩ := b.poll_unwritten ts
  rw [Block.signalPresent, hlast, Block.signalPresent]

theorem poll_pollSampled (b : Block) (ts now : Word) : (b.poll ts).pollSampled now = false := by
  simp [Block.pollSampled]

theorem poll_pollFwd_of_calState (h : (b.poll ts).calState = b.calState) (now : Word) :
    (b.poll ts).pollFwd now = b.pollFwd now := by
  rw [Block.pollFwd, Block.pollInsync, poll_signalPresent, poll_frameInSync, h, ← Block.pollInsync,
    ← Block.pollFwd]

/-- The window ends once (43_calibration.md R75). -/
theorem poll_expires_same (b : Block) (ts : Word) : (b.poll ts).expires ts = false := by
  obtain ⟨-, -, -, hstart⟩ := b.poll_unwritten ts
  cases h : b.expires ts
  · have hcal : (b.poll ts).calState = b.calState := by simp [h]
    rwa [Block.expires, hcal, hstart, ← Block.expires]
  · exact OutputFilter.expires_of_calibrated (by simp [h])

/-- Each axis is at its snapshot or was near it before (45_output_filter.md R85). -/
theorem poll_axisMoved_of_fwd (hfwd : b.pollFwd ts = true) (a : Axis) :
    (b.poll ts).axisMoved a = false := by
  rw [Block.axisMoved, poll_slot, Block.poll_rawOf]
  cases hm : b.axisMoved a
  · rw [if_neg (by simp)]
    exact hm
  · rw [if_pos ⟨hfwd, rfl⟩, absdiff_self]
    rfl

theorem poll_outputsSettled (hfwd : b.pollFwd ts = true) : OutputsSettled (b.poll ts) where
  axes := poll_axisMoved_of_fwd hfwd
  buttons j := by rw [Block.poll_buttonOf, if_pos hfwd, poll_slot]

/-- The second POLL finds in slot 0 what the first did, and forwards only if the first did. -/
theorem poll_poll_same (hcal : (b.poll ts).calState = b.calState) :
    (b.poll ts).poll ts = b.poll ts := by
  refine poll_eq_self (b.poll_frameDone ts) ?_ (poll_expires_same b ts) fun hf => ?_
  · rw [poll_signalPresent, poll_frameInSync, Block.poll_syncTrusted]
    intro htrust hpresent
    simpa [hpresent] using Bool.and_elim_right htrust
  · rw [poll_pollFwd_of_calState hcal] at hf
    exact poll_outputsSettled hf

/-- Behind a forwarding POLL slot 0 is in sync, the window is over and the outputs are settled. -/
theorem poll_poll_of_fwd (hfwd : b.pollFwd ts = true) (now : Word) :
    (b.poll ts).poll now = b.poll ts := by
  have hcal : (b.poll ts).calState = .calibrated := by simp [calState_of_pollFwd hfwd]
  refine poll_eq_self (b.poll_frameDone ts) (fun _ _ => ?_) (OutputFilter.expires_of_calibrated hcal)
    fun _ => poll_outputsSettled hfwd
  rw [poll_frameInSync]
  exact Bool.and_elim_right (pollInsync_of_pollFwd hfwd)

/-- Settles O27. -/
theorem secondPollRecordsNothing : Obligations.SecondPollRecordsNothing := by
  intro s t u ts now ht hu
  cases ht
  cases hu
  have hsampled := poll_pollSampled s.block ts now
  obtain ⟨-, -, hfwdBit⟩ := pollWord_getLsbD_conditions s.block ts
  obtain ⟨-, hsampledBit, -⟩ := pollWord_getLsbD_conditions (s.block.poll ts) now
  refine ⟨poll_bounds_of_not_sampled hsampled, hsampledBit.trans hsampled, rfl, ?_, ?_⟩
  · rintro rfl hcal
    exact poll_poll_same hcal
  · intro hbit
    have hfwd : s.block.pollFwd ts = true := hfwdBit.symm.trans hbit
    refine ⟨poll_poll_of_fwd hfwd now, (pollWord_extract_upd _ now).trans ?_⟩
    exact pollUpd_of_settled (poll_outputsSettled hfwd) now

end Sys2Proof.PollCycle

/-! The trust flag along runs of commands (40_edge_capture.md R59, R60, 70_reset_and_hazards.md R137). No
command but a resynchronizing EDGE raises SYNC_TRUSTED, and that EDGE has measured a pause in range. -/

namespace Sys2Proof.Untrusted

open Sys2Proof Sys2Proof.Machine Sys2Proof.Claims Sys2Proof.CommandOrder

variable {s t : State} {i : Instr}

/-- Only an EDGE whose pulse is in range raises trust; a POLL can but withdraw it. -/
theorem exec_untrusted (huntrusted : s.block.syncTrusted = false)
    (hpulse : ∀ ts, i = .edge ts →
      ¬(5000 < (ts - s.block.tLast).toNat ∧ (ts - s.block.tLast).toNat < 20000))
    (h : exec i s = .next t) : t.block.syncTrusted = false := by
  obtain ⟨ts, hi, hb⟩ | ⟨ts, -, hb⟩ | ⟨-, hb⟩ := StateRules.exec_block h <;> rw [hb]
  · have hrs : s.block.edgeRs ts = false :=
      Bool.eq_false_iff.2 fun h => hpulse ts hi ((edgeRs_iff s.block ts).1 h).2
    simp [huntrusted, hrs]
  · simp [huntrusted]
  · exact huntrusted

/-- Settles O16, by induction on the run: the pulses of the rest of the run are pulses of the run. -/
theorem noPauseInRangeMeansNoResync : Obligations.NoPauseInRangeMeansNoResync := by
  intro is
  induction is with
  | nil =>
    intro s u huntrusted _ hu
    cases hu
    exact huntrusted
  | cons i is ih =>
    intro s u huntrusted hpulses hu
    obtain ⟨t, ht, hrest⟩ := execList_cons_next hu
    have hfirst : t.block.syncTrusted = false :=
      exec_untrusted huntrusted (fun ts hi => hpulses [] is ts s (hi ▸ rfl) rfl) ht
    refine ih t u hfirst (fun before after ts v his hv => ?_) hrest
    exact hpulses (i :: before) after ts v (his ▸ rfl) ((execList_cons_of_exec before ht).trans hv)

end Sys2Proof.Untrusted

/-! One clock edge and runs of them (30_encoding.md R50, 60_exceptions.md R113, R126, 70_reset_and_hazards.md
R130, R131, R146). Every clock edge is idle, a reset or one command (`step_outcome`), and a command answers
from the block alone (`exec_of_block_eq`). -/

namespace Sys2Proof.ClockEdges

open Sys2Proof Sys2Proof.Machine Sys2Proof.Claims

/-! Reset. -/

/-- Settles O1: the reset block is the table of 10_state.md R28. -/
theorem resetInputSetsEveryElement : Obligations.ResetInputSetsEveryElement :=
  fun _ _ _ _ hin hr => ⟨_, step_of_reset hin hr, rfl, rfl, rfl⟩

/-- Settles O2, by induction on the clock edges on which `rst` is held. -/
theorem heldResetKeepsTheLastReading : Obligations.HeldResetKeepsTheLastReading := by
  intro s held rest last t0 hheld hlast hin
  induction held generalizing s with
  | nil => rw [List.length_nil, run_succ_of_step 0 (step_of_reset hin hlast), run_zero]
  | cons p held ih =>
    obtain ⟨hp, hlater⟩ := List.forall_mem_cons.1 hheld
    obtain ⟨t1, ht1⟩ := Option.isSome_iff_exists.1 hp
    rw [List.length_cons, run_succ_of_step _ (step_of_reset hin ht1)]
    exact ih _ hlater rfl

/-- What the ports show behind a tie keeps the reset shown there, and the rest. -/
theorem heldCommand_cons_of_reset (cmd : Option CmdWord) {q : PortInput} {t0 : Word}
    (rest : List PortInput) (h : q.reset = some t0) :
    ∃ q', heldCommand cmd (q :: rest) = q' :: rest ∧ q'.reset = some t0 := by
  cases cmd with
  | none => exact ⟨q, rfl, h⟩
  | some w => exact ⟨_, rfl, h⟩

/-- Settles O58: the first clock edge does the EDGE, the second the reset. -/
theorem heldCommandIsIgnoredAtReset : Obligations.HeldCommandIsIgnoredAtReset := by
  intro s p q rest t0 hin hp hedge hq
  obtain ⟨ts, hts⟩ := Option.isSome_iff_exists.1 hedge
  obtain ⟨q', hheld, hq'⟩ := heldCommand_cons_of_reset p.cmd rest hq
  obtain ⟨t, ht, htin, -⟩ := exec_cases (.edge ts) (s.accept (heldCommand p.cmd (q :: rest)) false)
  have hfirst : step s = .next t := (InputPorts.step_edgePort hin hp hts).trans ht
  have hsecond : step t = .next (State.resetAt t0 rest) := step_of_reset (htin.trans hheld) hq'
  rw [run_succ_of_step 1 hfirst, run_succ_of_step 0 hsecond, run_zero]

/-! Clock edges without a command. -/

/-- A clock edge behind the end of the list. -/
theorem step_of_inputs_nil {s : State} (h : s.inputs = []) : step s = .next (s.idleClock []) := by
  simp only [step, fetch, h]

/-- Settles O7. -/
theorem idleClockKeepsTheBlock : Obligations.IdleClockKeepsTheBlock := by
  refine ⟨fun s hin => ?_, fun s p rest hin hr he hc => step_of_idle hin hr he hc⟩
  rw [step_of_inputs_nil hin, ← hin]
  rfl

/-- Any number of clock edges without a command lose nothing (R126). -/
theorem run_idle (k : Nat) {s : State} {rest : List PortInput}
    (h : s.inputs = List.replicate k { reset := none, edge := none, cmd := none } ++ rest) :
    ∃ t, Host.Core.run Sys2Proof.core k s = .next t ∧
      t.block = s.block ∧ t.rsp = s.rsp ∧ t.inputs = rest := by
  induction k generalizing s with
  | zero => exact ⟨s, run_zero s, rfl, rfl, h⟩
  | succ k ih =>
    rw [List.replicate_succ, List.cons_append] at h
    rw [run_succ_of_step k (step_of_idle h rfl rfl rfl)]
    exact ih (s.idleClock_inputs _)

/-! One command. -/

/-- Two states with one block answer a command alike. -/
theorem exec_of_block_eq (i : Instr) {s s' : State} (h : s.block = s'.block) :
    ∃ b r c, exec i s = .next (s.respond b r c) ∧ exec i s' = .next (s'.respond b r c) := by
  obtain ⟨b, inputs, rspValid, rsp, commit⟩ := s
  obtain rfl : b = s'.block := h
  cases i <;> exact ⟨_, _, _, rfl, rfl⟩

/-- Every clock edge answers: nothing, a reset, or one command whole. -/
theorem step_outcome (s : State) :
    ∃ t, step s = .next t ∧
      (t = { s with inputs := t.inputs, rspValid := false, commit := false } ∨
        (∃ t0, t = State.resetAt t0 t.inputs) ∨
        ∃ (i : Instr) (v : Bool), exec i { s with inputs := t.inputs, rspValid := v } = .next t) := by
  obtain ⟨rest, -, hstep⟩ | ⟨t0, rest, -, hstep⟩ | ⟨w, rest, v, -, hstep⟩ := step_cases s
  · exact ⟨_, hstep, .inl rfl⟩
  · exact ⟨_, hstep, .inr (.inl ⟨t0, rfl⟩)⟩
  · obtain ⟨t, ht, hin, -⟩ := exec_cases (decode w) (s.accept rest v)
    refine ⟨t, hstep.trans ht, .inr (.inr ⟨decode w, v, ?_⟩)⟩
    rw [hin]
    exact ht

/-- Settles O60, from the three facts above. -/
theorem oneStepPerCommandAndNoOtherTime : Obligations.OneStepPerCommandAndNoOtherTime := by
  refine ⟨step_outcome, fun i s s' hblock => ?_, fun k s rest hin => run_idle k hin⟩
  obtain ⟨b, r, c, h, h'⟩ := exec_of_block_eq i hblock
  exact ⟨_, _, h, h', rfl, rfl, rfl⟩

theorem neverStops (k : Nat) (s : State) : NeverStops k s := by
  induction k generalizing s with
  | zero => exact ⟨s, run_zero s⟩
  | succ k ih =>
    obtain ⟨t, ht, -⟩ := step_outcome s
    rw [NeverStops, run_succ_of_step k ht]
    exact ih t

/-- Settles O47: every decoded word is a command, and every clock edge answers. -/
theorem nothingEverStops : Obligations.NothingEverStops := by
  refine ⟨fun w s => ?_, neverStops⟩
  obtain ⟨t, ht, -⟩ := exec_cases (decode w) s
  exact ⟨t, ht⟩

end Sys2Proof.ClockEdges

/-! NOP, the read commands and the reserved opcodes (47_readout.md R100 to R109). Each answers one word, so
what it does is that word (`next_answer_congr`): a register read at an index of its space and 0 outside
(20_memory.md R30, R32), or a layout of 30_encoding.md R49, R51. Read the other way, each register is the
answer at its own index and each layout can be taken apart, so the answers determine the block (R126). -/

namespace Sys2Proof.Readout

open Sys2Proof Sys2Proof.Machine Sys2Proof.Claims Sys2Proof.CommandWord

theorem next_answer_congr (s : State) {r r' : Word} (h : r = r') :
    (.next (s.answer r) : Host.Outcome State Fault Refusal) =
      .next { s with rsp := r', commit := false } :=
  h ▸ rfl

/-! The commands that answer 0. -/

/-- Settles O36. -/
theorem nopAnswersZero : Obligations.NopAnswersZero := fun _ arg =>
  ⟨decode_opcode_append .nop arg (.inl rfl), rfl⟩

/-- Settles O45. -/
theorem reservedOpcodesActAsNop : Obligations.ReservedOpcodesActAsNop := fun _ arg =>
  ⟨decode_opcode_append .rsvdE arg (.inl rfl), decode_opcode_append .rsvdF arg (.inl rfl), rfl, rfl⟩

/-! Indexed reads. -/

section
variable (idx : Word)

theorem slotIndex_read (f : Slot → Word) :
    ((slotIndex idx).map f).getD 0 = if h : idx.toNat < 7 then f ⟨idx.toNat, h⟩ else 0 := by
  split
  next h => rw [slotIndex_of_lt idx h]; rfl
  next h => rw [slotIndex_of_ge idx (Nat.le_of_not_lt h)]; rfl

theorem channelIndex_read (f : Channel → Word) :
    ((channelIndex idx).map f).getD 0 =
      if h : 1 ≤ idx.toNat ∧ idx.toNat - 1 < 6 then f ⟨idx.toNat - 1, h.2⟩ else 0 := by
  split
  next h => rw [channelIndex_of_mem idx (by omega)]; rfl
  next h => rw [channelIndex_of_not_mem idx (by omega)]; rfl

theorem axisIndex_read (f : Axis → Word) :
    ((axisIndex idx).map f).getD 0 =
      if h : 1 ≤ idx.toNat ∧ idx.toNat - 1 < 4 then f ⟨idx.toNat - 1, h.2⟩ else 0 := by
  split
  next h => rw [axisIndex_of_mem idx (by omega)]; rfl
  next h => rw [axisIndex_of_not_mem idx (by omega)]; rfl

theorem timeSelect_read (b : Block) :
    ((timeSelect idx).map b.timeOf).getD 0 =
      if idx = 0 then b.tLast else if idx = 1 then b.calStart else 0 := by
  have hzero : idx.toNat = 0 ↔ idx = 0 := BitVec.toNat_inj (y := 0)
  have hone : idx.toNat = 1 ↔ idx = 1 := BitVec.toNat_inj (y := 1)
  simp only [timeSelect, hzero, hone]
  split
  · rfl
  · split <;> rfl

end

/-- Settles O37. -/
theorem rdslotReadsFrame : Obligations.RdslotReadsFrame := fun s idx =>
  ⟨decode_encode (.rdslot idx), next_answer_congr s (slotIndex_read idx s.block.slot)⟩

/-- Settles O38. -/
theorem rdminReadsTheMinimum : Obligations.RdminReadsTheMinimum := fun s idx =>
  ⟨decode_encode (.rdmin idx), next_answer_congr s (channelIndex_read idx s.block.minOf)⟩

/-- Settles O39. -/
theorem rdmaxReadsTheMaximum : Obligations.RdmaxReadsTheMaximum := fun s idx =>
  ⟨decode_encode (.rdmax idx), next_answer_congr s (channelIndex_read idx s.block.maxOf)⟩

/-- Settles O40. -/
theorem rdaxisReadsTheOutput : Obligations.RdaxisReadsTheOutput := fun s idx =>
  ⟨decode_encode (.rdaxis idx),
    next_answer_congr s (axisIndex_read idx fun a => zext32 (s.block.axisOf a))⟩

/-- Settles O43. -/
theorem rdrawReadsTheSnapshot : Obligations.RdrawReadsTheSnapshot := fun s idx =>
  ⟨decode_encode (.rdraw idx), next_answer_congr s (axisIndex_read idx s.block.rawOf)⟩

/-- Settles O44. -/
theorem rdtsReadsTheTimestamps : Obligations.RdtsReadsTheTimestamps := fun s idx =>
  ⟨decode_encode (.rdts idx), next_answer_congr s (timeSelect_read idx s.block)⟩

/-! The two layouts. -/

/-- Settles O41: two bits, laid out as those of EDGE's response. -/
theorem rdbtnReadsBothButtons : Obligations.RdbtnReadsBothButtons := fun s arg =>
  ⟨decode_opcode_append .rdbtn arg (.inl rfl),
    next_answer_congr s (EdgeMeasures.edgeResponse_eq_add (s.block.buttonOf 0) (s.block.buttonOf 1))⟩

/-- Two fields side by side, as a number. -/
theorem toNat_append_eq {m n : Nat} (x : BitVec m) (y : BitVec n) :
    (x ++ y).toNat = 2 ^ n * x.toNat + y.toNat := by
  rw [BitVec.toNat_append, Nat.shiftLeft_eq_mul_pow, Nat.mul_comm, Nat.two_pow_add_eq_or_of_lt y.isLt]

/-- The STAT word as a number (10_state.md R24). -/
theorem statWord_eq_ofNat (b : Block) :
    b.statWord = BitVec.ofNat 32
      (16 * b.idx.val + 4 * b.calState.code.toNat + 2 * b.frameDone.toNat + b.syncTrusted.toNat) := by
  have hidx : b.idx.val % 2 ^ 3 = b.idx.val := Nat.mod_eq_of_lt (b.idx.isLt.trans (by decide))
  rw [Block.statWord, zext32, ← BitVec.ofNat_toNat]
  simp only [Block.statBits, bit, toNat_append_eq, BitVec.toNat_ofBool, BitVec.toNat_ofNat, hidx]
  congr 1
  omega

/-- Settles O42. -/
theorem rdstatReadsTheStatusWord : Obligations.RdstatReadsTheStatusWord := by
  refine fun s arg => ⟨decode_opcode_append .rdstat arg (.inl rfl), next_answer_congr s ?_⟩
  simp only [statWord_eq_ofNat, Bool.toNat, Bool.cond_eq_ite]
  cases s.block.calState <;> rfl

/-! The answers determine the block (60_exceptions.md R126). -/

/-- The read commands tell the two states nothing apart. -/
def ReadAlike (s s' : State) : Prop :=
  ∀ (i : Instr) (t t' : State), isReadCommand i = true → exec i s = .next t →
    exec i s' = .next t' → t.rsp = t'.rsp

theorem slotIndex_ofNat (i : Slot) : slotIndex (BitVec.ofNat 32 i.val) = some i := by
  revert i
  decide

theorem channelIndex_ofNat (c : Channel) : channelIndex (BitVec.ofNat 32 (c.val + 1)) = some c := by
  revert c
  decide

theorem zext32_inj {n : Nat} (hn : n ≤ 32) {v v' : BitVec n} (h : zext32 v = zext32 v') : v = v' := by
  rw [← ResponsePorts.setWidth_zext32 v hn, h, ResponsePorts.setWidth_zext32 v' hn]

theorem append_inj {m n : Nat} {x x' : BitVec m} {y y' : BitVec n} (h : x ++ y = x' ++ y') :
    x = x' ∧ y = y' := by
  have hhi := congrArg (BitVec.extractLsb' n m) h
  have hlo := congrArg (BitVec.extractLsb' 0 n) h
  simp only [BitVec.extractLsb'_append_eq_left] at hhi
  simp only [BitVec.extractLsb'_append_eq_right] at hlo
  exact ⟨hhi, hlo⟩

theorem bit_inj {v v' : Bool} (h : bit v = bit v') : v = v' := by
  revert v v'
  decide

theorem code_inj {c c' : CalState} (h : c.code = c'.code) : c = c' := by
  cases c <;> cases c' <;> revert h <;> decide

theorem idxBits_inj {k k' : Slot} (h : BitVec.ofNat 3 k.val = BitVec.ofNat 3 k'.val) : k = k' := by
  revert k k'
  decide

section
variable {s s' : State} (h : ReadAlike s s')
include h

theorem ReadAlike.slot (i : Slot) : s.block.slot i = s'.block.slot i := by
  simpa [slotIndex_ofNat] using h (.rdslot (BitVec.ofNat 32 i.val)) _ _ rfl rfl rfl

theorem ReadAlike.minOf (c : Channel) : s.block.minOf c = s'.block.minOf c := by
  simpa [channelIndex_ofNat] using h (.rdmin (BitVec.ofNat 32 (c.val + 1))) _ _ rfl rfl rfl

theorem ReadAlike.maxOf (c : Channel) : s.block.maxOf c = s'.block.maxOf c := by
  simpa [channelIndex_ofNat] using h (.rdmax (BitVec.ofNat 32 (c.val + 1))) _ _ rfl rfl rfl

theorem ReadAlike.axisOf (a : Axis) : s.block.axisOf a = s'.block.axisOf a :=
  zext32_inj (by decide) (by simpa using h (.rdaxis (axisNumber a)) _ _ rfl rfl rfl)

theorem ReadAlike.rawOf (a : Axis) : s.block.rawOf a = s'.block.rawOf a := by
  simpa using h (.rdraw (axisNumber a)) _ _ rfl rfl rfl

theorem ReadAlike.tLast : s.block.tLast = s'.block.tLast :=
  h (.rdts 0) _ _ rfl rfl rfl

theorem ReadAlike.calStart : s.block.calStart = s'.block.calStart :=
  h (.rdts 1) _ _ rfl rfl rfl

theorem ReadAlike.buttonOf (j : Button) : s.block.buttonOf j = s'.block.buttonOf j := by
  have hbtn : s.block.btnBits = s'.block.btnBits :=
    zext32_inj (by decide) (h .rdbtn _ _ rfl rfl rfl)
  obtain ⟨hone, hzero⟩ := append_inj hbtn
  revert j
  exact Fin.forall_fin_two.2 ⟨bit_inj hzero, bit_inj hone⟩

theorem ReadAlike.status :
    s.block.idx = s'.block.idx ∧ s.block.calState = s'.block.calState ∧
      s.block.frameDone = s'.block.frameDone ∧ s.block.syncTrusted = s'.block.syncTrusted := by
  have hstat : s.block.statBits = s'.block.statBits :=
    zext32_inj (by decide) (h .rdstat _ _ rfl rfl rfl)
  obtain ⟨hupper, htrust⟩ := append_inj hstat
  obtain ⟨hupper, hdone⟩ := append_inj hupper
  obtain ⟨hidx, hcode⟩ := append_inj hupper
  exact ⟨idxBits_inj hidx, code_inj hcode, bit_inj hdone, bit_inj htrust⟩

theorem ReadAlike.sameButBounds : s'.block.SameButBounds s.block :=
  have ⟨hidx, hcal, hdone, htrust⟩ := h.status
  { frame := Block.frame_eq_of_slot _ _ h.slot
    idx := hidx
    tLast := h.tLast
    syncTrusted := htrust
    frameDone := hdone
    calState := hcal
    calStart := h.calStart
    lastRaw := Block.lastRaw_eq_of_rawOf _ _ h.rawOf
    axis := Block.axis_eq_of_axisOf _ _ h.axisOf
    button := Block.button_eq_of_buttonOf _ _ h.buttonOf }

end

/-- Settles O55: every register is an answer, and a register array is equal when it reads equal. -/
theorem readCommandsShowTheWholeBlock : Obligations.ReadCommandsShowTheWholeBlock := by
  intro s s' h
  have halike : ReadAlike s s' := h
  exact Calibration.eq_of_sameButBounds halike.sameButBounds (by constructor <;> rfl)
    (Block.cmin_eq_of_minOf _ _ halike.minOf) (Block.cmax_eq_of_maxOf _ _ halike.maxOf)

end Sys2Proof.Readout

/-! The words of 95_test_vectors.md V-X: each has the fields of the command it is listed with. -/

namespace Sys2Proof.ListedWords

open Sys2Proof Sys2Proof.CommandWord

/-- Settles O13. -/
theorem listedWordsDecode : Obligations.ListedWordsDecode :=
  ⟨decode_of_fields rfl (.inl rfl), decode_of_fields rfl (.inr rfl), decode_of_fields rfl (.inr rfl),
    decode_of_fields rfl (.inl rfl), decode_of_fields rfl (.inr rfl), decode_of_fields rfl (.inr rfl),
    decode_of_fields rfl (.inl rfl)⟩

end Sys2Proof.ListedWords
